-- ==== Sys2Proof/Word.lean ====
section
/-! DEFINITION. The widths of the part: every number that crosses a boundary of the station as bits (R194 to R198),
each under the name the manual gives it, and the two plainest operations on counts. -/

namespace Sys2Proof

/-- A station number 0..7: the value of the three straps (R25). -/
abbrev StationNo := BitVec 3
/-- A bank number 0..15 (channel geometry). -/
abbrev BankNo := BitVec 4
/-- A row number 0..32767. -/
abbrev RowNo := BitVec 15
/-- A column: the granule index within a row, 0..31. -/
abbrev ColumnNo := BitVec 5
/-- The bursts field of a command word or a request header, as carried (R194, R196). -/
abbrev BurstCount := BitVec 3
/-- The check value field of a lane command word (R194). -/
abbrev CheckValue := BitVec 16
/-- The channel digest (R34). -/
abbrev Digest := BitVec 16
/-- A lane command word as it stands on the command lines (R194). -/
abbrev LaneBits := BitVec 48
/-- The eleven bits of a claim phase, bit 10 first on the lines (R194). -/
abbrev ClaimBits := BitVec 11
/-- The client's number for a request (R196). -/
abbrev Tag := BitVec 5
/-- The client's number for a thread (R196). -/
abbrev Thread := BitVec 4
/-- A client byte address: 30 bits (channel geometry). -/
abbrev Address := BitVec 30
/-- A word of the request path or the response path (R186). -/
abbrev PortWord := BitVec 64
/-- A word of the start record (R198). -/
abbrev RecordWord := BitVec 16
/-- The 704 bits of the start record as they arrive on the serial input, bit 703 first (R26, R198). -/
abbrev SerialRecord := BitVec 704
/-- Eight line samples, bit n for station n: the presence lines, and the roster they give (R6, R40). -/
abbrev StationSet := BitVec 8
/-- One byte. -/
abbrev Byte := BitVec 8
/-- The 64 bytes of one burst as eight 64-bit words: byte j of the granule is bits
`8 (j mod 8) + 7` down to `8 (j mod 8)` of word `j / 8` (R195, R196). -/
abbrev BurstData := Vector (BitVec 64) 8
/-- The 64 mask bits of a write burst: bit j belongs to byte j, and 1 means the byte is written (R19). -/
abbrev Mask := BitVec 64
/-- One of the station's eight counters, which wraps at 32 bits (R193). -/
abbrev Counter := BitVec 32

/-- A count of 16 bits that saturates at 65535: the silence count (R47) and the idle count (R155). -/
def saturatingSucc (n : Nat) : Nat := min (n + 1) 65535

/-- The burst of 64 zero bytes, as undriven data lines read (R5). -/
def zeroBurst : BurstData := Vector.replicate 8 0

end Sys2Proof
end

