-- ==== Sys2Proof/Config.lean ====
section
/-! DEFINITION. What the part fixes once for every station (the geometry of the channel, the fixed numbers of the
formats), and the one free value the manual leaves: a byte of the channel memory that the manual calls undefined. -/

namespace Sys2Proof

/-- FREE VALUE (notes/assumptions/11.md). The byte the channel memory drives for a byte whose content the manual calls
undefined: never written since the last CLOSE_ALL(INIT), or read while retention is lost (R12, R17, R18, R21). The first
argument numbers the READ that drives it, the second is the byte's address in the channel. Nothing constrains it. -/
opaque Config.undefinedByte : Nat → Nat → Byte

/-- Places of the Request Queue (R87). -/
def Config.queueSize : Nat := 16
/-- Places of the Reservation Table (R162). -/
def Config.tableSize : Nat := 6
/-- Room of the response list (R187). -/
def Config.responseRoom : Nat := 64
/-- The most responses the list may hold for the take line to be high in the next slot (R187). -/
def Config.takeLimit : Nat := 40
/-- Words the request path and the response path carry in one slot (R186, R187). -/
def Config.portWidth : Nat := 8
/-- The highest debt a refresh account can hold (R146). -/
def Config.maxDebt : Nat := 7
/-- The debt from which a member refreshes urgently (R152). -/
def Config.urgentDebt : Nat := 5
/-- The Start Loader's read request (R198). -/
def Config.readRequest : BitVec 16 := 0x6C00#16
/-- Slots from the release of hard reset to the arrival of the last record bit: 16 + 704 (R26). -/
def Config.recordReadSlots : Nat := 720
/-- The check value field for the token CLOSED (R194). -/
def Config.closedToken : CheckValue := 0xFFFF#16
/-- A fault detail that names no station (R197). -/
def Config.noStation : Byte := 0xFF#8
/-- The check byte that undriven check lines read as (R5). -/
def Config.undrivenCheck : Byte := 0xFF#8

end Sys2Proof
end

