-- ==== Sys2Proof/Syntax.lean ====
section
/-! DEFINITION. The station's steps. One constructor of `Instr` per row of spec/opcode_table.json, with the operands that
the outside world supplies with the step (the lines' bits, a command's fields, a request's fields), and the names those
operands are made of. A row that the station takes of its own accord (an expiry, a drive) has no operand. -/

namespace Sys2Proof

/-- The purpose of a CLOSE_ALL (R194: INIT 0, REFRESH 1, QUIET 2, RECOVER 3). -/
inductive Purpose where
  | init | refresh | quiet | recover
deriving DecidableEq, Repr

/-- A lane command as its word carries it: its kind, the check value where the kind has one (section 1.5), and its fields. -/
inductive LaneCommand where
  | openRow (check : CheckValue) (bank : BankNo) (row : RowNo)
  | close (check : CheckValue) (bank : BankNo)
  | closeAll (check : CheckValue) (purpose : Purpose) (digest : Digest)
  | read (check : CheckValue) (bank : BankNo) (column : ColumnNo) (bursts : BurstCount)
  | write (check : CheckValue) (bank : BankNo) (column : ColumnNo) (bursts : BurstCount)
  | refresh (check : CheckValue)
  | sleep (check : CheckValue)
  | wake (digest : Digest)
  | modeSet (item : BitVec 2) (value : BitVec 4)
deriving DecidableEq, Repr

/-- What a command phase carried (R2, R4, R194). -/
inductive Observed where
  /-- no command: the lines released, or a word of kind 0 -/
  | empty
  /-- an undefined command: a word of kind 10 to 15, with the issuer field it carries -/
  | undefined (issuer : StationNo)
  /-- a command from the issuer its word names -/
  | command (issuer : StationNo) (c : LaneCommand)
deriving DecidableEq, Repr

/-- What the data lines and the mask lines carry in one data slot (R195). -/
structure DataLines where
  data : BurstData
  mask : Mask
deriving DecidableEq, Repr

/-- The station's steps, in the order of spec/opcode_table.json. -/
inductive Instr where
  /-- HARD_RESET: the reset pin is asserted, or power comes on. -/
  | hardReset
  /-- RESET_RELEASE: the first slot after release, with the straps and the eight presence lines as sampled in it. -/
  | resetRelease (straps : StationNo) (presence : StationSet)
  /-- START_RECORD_READ_COMPLETE: the last record bit arrives; the 704 bits as shifted in. -/
  | startRecordReadComplete (bits : SerialRecord)
  /-- CLAIM_PHASE: bit b of `peers` is 1 when some other station asserts the claim lines in the bit time of bit b. -/
  | claimPhase (peers : ClaimBits)
  /-- COMMAND_READ_BACK: the word the lines carry in the command phase this station has won. -/
  | commandReadBack (sampled : LaneBits)
  | openCommand (issuer : StationNo) (check : CheckValue) (bank : BankNo) (row : RowNo)
  | closeCommand (issuer : StationNo) (check : CheckValue) (bank : BankNo)
  | readCommand (issuer : StationNo) (check : CheckValue) (bank : BankNo) (column : ColumnNo) (bursts : BurstCount)
  | writeCommand (issuer : StationNo) (check : CheckValue) (bank : BankNo) (column : ColumnNo) (bursts : BurstCount)
  | closeAllCommand (issuer : StationNo) (check : CheckValue) (purpose : Purpose) (digest : Digest)
  | refreshCommand (issuer : StationNo) (check : CheckValue)
  | sleepCommand (issuer : StationNo) (check : CheckValue)
  | wakeCommand (issuer : StationNo) (digest : Digest)
  | modeSetCommand (issuer : StationNo) (item : BitVec 2) (value : BitVec 4)
  /-- UNDEFINED_COMMAND: a word of kind 10 to 15. -/
  | undefinedCommand (kind : BitVec 4) (issuer : StationNo)
  | emptySlot
  | commandErrorAlert
  | writeCheckAlert
  | presenceRise (station : StationNo)
  | presenceFall (station : StationNo)
  /-- READY_LINE_CHANGE: the level now sampled. -/
  | readyLineChange (high : Bool)
  /-- QUIET_LINE_CHANGE: the level now sampled. -/
  | quietLineChange (high : Bool)
  | listenWaitExpiry
  | periodExpiry
  | idleWaitExpiry
  /-- READ_BURST_CAPTURE: what the data, mask and check lines carry in the slot. In a data slot of its own READ the station
  captures it, the mask ignored (R174). In every slot it is what the channel memory receives where the slot is a data slot of
  another station's WRITE (R5, R19, notes/assumptions/10.md). -/
  | readBurstCapture (lines : DataLines) (check : Byte)
  | writeBurstDrive
  | alertWindowExpiry
  | fenceLimitExpiry
  | drainComplete
  | detach
  | readRequest (tag : Tag) (thread : Thread) (bursts : BurstCount) (urgent : Bool) (address : Address)
  /-- WRITE_REQUEST: the header's fields and the words taken with it, eight data words and a mask word a burst. -/
  | writeRequest (tag : Tag) (thread : Thread) (bursts : BurstCount) (urgent : Bool) (address : Address) (words : List PortWord)
  | exclReadRequest (tag : Tag) (thread : Thread) (bursts : BurstCount) (address : Address)
  | exclWriteRequest (tag : Tag) (thread : Thread) (bursts : BurstCount) (address : Address) (words : List PortWord)
  | fence (tag : Tag)
  | quietPermit (tag : Tag) (value : Bool)
  | leave (tag : Tag)
  | join (tag : Tag)
  | restart (tag : Tag)
  | report (tag : Tag)
  | clear (tag : Tag)
  /-- UNDEFINED_REQUEST_KIND: a header of kind code 11 to 15. -/
  | undefinedRequestKind (kind : BitVec 4) (tag : Tag)
  /-- STRAY_WORD_DISCARD: a request-path word without a start mark. -/
  | strayWordDiscard (word : PortWord)
  /-- RESPONSE_SEND: a slot with accept high. -/
  | responseSend
deriving DecidableEq, Repr

end Sys2Proof
end

