-- ==== Sys2Proof/Machine/State.lean ====
section
/-! DEFINITION. Everything the manual gives the machine, as plain data: the station's eleven blocks (block overview), the
lines it drives and samples, the work of the slot in hand, the channel memory on the lane (R12), and the queue of steps
that wait. One record a block, so that a step that leaves a block alone leaves one field alone. -/

namespace Sys2Proof.Machine

/-! ### How a step can stop -/

/-- Why the machine stops with a fault. There is no such reason: every step the manual describes has a next state, and a
step whose occasion has not come leaves the state as it is (notes/assumptions/2.md). The type has no constructor, so that
no meaning can stop here. -/
inductive Fault where
deriving DecidableEq, Repr

/-- Why a step is refused. -/
inductive Refusal where
  /-- Raised by `exec`'s arm for a row that has no meaning yet. Safe: the model stops where the hardware goes on. -/
  | notModelled (mnemonic : String)
deriving DecidableEq, Repr

/-! ### Start Loader (chapter 2) -/

/-- The fourteen channel-common fields of the start record, words 1 to 14 (section 2.3). -/
structure Timing where
  openDelay : Nat
  rowHold : Nat
  closeDelay : Nat
  writeRecovery : Nat
  readLatency : Nat
  writeLatency : Nat
  turnRW : Nat
  turnWR : Nat
  openSpacing : Nat
  alertWindow : Nat
  writeSpacing : Nat
  refreshBusy : Nat
  refreshPeriod : Nat
  wakeDelay : Nat
deriving DecidableEq, Repr

/-- An access window: the granules from base to limit, and the rights code 1 read, 2 write, 3 read-write (R35). -/
structure Window where
  base : Nat
  limit : Nat
  rights : Nat
deriving DecidableEq, Repr

/-- The loaded configuration (R33). -/
structure Settings where
  timing : Timing
  idleWait : Nat
  listenWait : Nat
  ageStep : Nat
  ageMax : Nat
  guardMax : Nat
  priorityPermit : Bool
  quietPermit : Bool
  /-- the used windows, in window order -/
  windows : List Window
  resyncHold : Nat
  digest : Digest
deriving DecidableEq, Repr

/-- What an operation reads while no configuration is loaded (notes/assumptions/19.md): no rule of the manual consults a
setting then. -/
def Settings.unloaded : Settings where
  timing := ⟨0, 0, 0, 0, 0, 0, 0, 0, 0, 0, 0, 0, 0, 0⟩
  idleWait := 0
  listenWait := 0
  ageStep := 0
  ageMax := 0
  guardMax := 0
  priorityPermit := false
  quietPermit := false
  windows := []
  resyncHold := 0
  digest := 0

/-- The Start Loader (R25 to R36). -/
structure Loader where
  /-- the straps sample; none while hard reset is held -/
  straps : Option StationNo
  /-- the 44 words as read; none until the read completes -/
  record : Option (Vector RecordWord 44)
  /-- the loaded configuration; none until a record passes its tests -/
  settings : Option Settings
  /-- the select line of the start port -/
  selected : Bool
  /-- the serial output line of the start port -/
  serialOut : Bool
  /-- the serial clock is driven in the slot in hand (R198) -/
  serialClock : Bool
deriving DecidableEq, Repr

/-! ### Membership Controller (chapter 3) -/

/-- The station states (section 3.1). -/
inductive StationState where
  | off | loading | listening | initializing | member | resync | leaving | draining | detached | withdrawn
deriving DecidableEq, Repr

/-- The initialization step: the next command of the sequence of R48, steps 1 to 7. -/
inductive InitStep where
  | setReadLatency | setWriteLatency | setCheckEnable | setAlertEnable | closeAll | firstRefresh | secondRefresh
deriving DecidableEq, Repr

/-- The drain target (R37). -/
inductive DrainTarget where
  | listening | withdrawn
deriving DecidableEq, Repr

/-- The Membership Controller (R37). -/
structure Membership where
  state : StationState
  /-- the set of present station numbers, bit n for station n (R40) -/
  roster : StationSet
  /-- 0..65535 (R47) -/
  silence : Nat
  initStep : Option InitStep
  drainTarget : Option DrainTarget
  leaveDoubt : Bool
deriving DecidableEq, Repr

/-! ### Bank Mirror (chapter 4) -/

/-- The row a bank record holds open, and the slot of its OPEN (R63). -/
structure OpenRow where
  row : RowNo
  slot : Nat
deriving DecidableEq, Repr

/-- A per-bank record (R63): CLOSED when `opened` is none. -/
structure BankRecord where
  opened : Option OpenRow
  earliestColumn : Nat
  earliestClose : Nat
  earliestOpen : Nat
deriving DecidableEq, Repr

/-- channel_state of a known mirror (R64); a doubted mirror's reads UNKNOWN. -/
inductive ChannelState where
  | initializing | running | sleeping
deriving DecidableEq, Repr

/-- What a known mirror holds besides the kept fields (R63 to R65). -/
structure KnownMirror where
  banks : Vector BankRecord 16
  channel : ChannelState
  refreshHold : Bool
  quietHold : Bool
deriving DecidableEq, Repr

/-- last_direction (R64). -/
inductive Direction where
  | read | write
deriving DecidableEq, Repr

/-- The kept fields (R64, R65), but for write_fence. -/
structure KeptFields where
  dataFree : Nat
  /-- none is NONE -/
  lastDirection : Option Direction
  earliestOpenAny : Nat
  earliestWriteAny : Nat
  commandBlockUntil : Nat
  lastOpenOrWrite : Option Nat
  sleepSeen : Bool
  /-- recent issuers: the newer of the last two slots -/
  newerIssuer : Option StationNo
  /-- recent issuers: the older of the last two slots -/
  olderIssuer : Option StationNo
deriving DecidableEq, Repr

/-- write_fence (R64, R180), with its final mark. -/
structure WriteFence where
  issuer : StationNo
  bank : BankNo
  row : CheckValue
  column : ColumnNo
  bursts : BurstCount
  limit : Nat
  final : Bool
deriving DecidableEq, Repr

/-- The Bank Mirror: `known` is none while the mirror is doubted, `kept` none while the kept fields have no value (R65). -/
structure Mirror where
  known : Option KnownMirror
  kept : Option KeptFields
  fence : Option WriteFence
deriving DecidableEq, Repr

/-! ### Request Queue (chapter 5) -/

/-- The kinds of an entry but FENCE. -/
inductive MemKind where
  | read | write | exclRead | exclWrite
deriving DecidableEq, Repr

/-- An entry's class (R115, R116). -/
inductive EntryClass where
  | ordinary | priority
deriving DecidableEq, Repr

/-- Why a request is refused (R196). -/
inductive RefusalReason where
  | starting | notMember | full | tagInUse | align | range | access | badState
deriving DecidableEq, Repr

/-- The responses a retired entry can have (R105). -/
inductive EntryOutcome where
  | ok | exokay | exfail | dataError | aborted
deriving DecidableEq, Repr

/-- The phases of an entry (section 5.3); DONE carries the response the entry retires with. -/
inductive Phase where
  | waiting | readIssued | writeIssued | retryWait
  | done (outcome : EntryOutcome)
deriving DecidableEq, Repr

/-- One burst of write data with its mask (R88). -/
structure WriteBurst where
  data : BurstData
  mask : Mask
deriving DecidableEq, Repr

/-- A command judged for an offered entry in the slot in hand (R110, R112, R114). -/
structure Judged where
  command : LaneCommand
  eligible : Bool
deriving DecidableEq, Repr

/-- The fields a FENCE entry does not have (R88). -/
structure MemFields where
  kind : MemKind
  thread : Thread
  bank : BankNo
  row : RowNo
  column : ColumnNo
  bursts : BurstCount
  /-- the write data of a write kind -/
  writeData : List WriteBurst
  /-- the bursts captured for the last READ command -/
  captured : List BurstData
  /-- whether one of the captured bursts failed its check -/
  captureFailed : Bool
  cls : EntryClass
  age : Nat
  guardCount : Nat
  retryUsed : Bool
  issueSlot : Option Nat
  /-- the model's own: the slot of the entry's move to RETRY_WAIT (notes/assumptions/16.md) -/
  retrySlot : Option Nat
  /-- the Selector's work of the slot in hand: absent when the entry is not in the offered set (R110) -/
  judged : Option Judged
deriving DecidableEq, Repr

/-- An entry of the Request Queue (R88): a FENCE entry when `mem` is none. -/
structure Entry where
  tag : Tag
  phase : Phase
  mem : Option MemFields
  /-- the model's own: the slot of admission (notes/assumptions/6.md) -/
  joined : Nat
  /-- the model's own: the place in arrival order (R87), which outlives the entry's place in the queue until its response
  has joined the list (notes/assumptions/22.md) -/
  order : Nat
deriving DecidableEq, Repr

/-! ### Reservation Table (chapter 9) and Data Unit (chapter 10) -/

/-- A reservation (R162). -/
structure Reservation where
  thread : Thread
  bank : BankNo
  row : RowNo
  column : ColumnNo
  setOrder : Nat
deriving DecidableEq, Repr

/-- The last write record (R163). -/
structure LastWrite where
  bank : BankNo
  row : CheckValue
  firstColumn : Nat
  lastColumn : Nat
  lastDataSlot : Nat
deriving DecidableEq, Repr

/-- The Reservation Table with its last write record. -/
structure ReservationTable where
  reservations : List Reservation
  lastWrite : Option LastWrite
deriving DecidableEq, Repr

/-- The alert attribution record (R172). -/
structure Attribution where
  slot : Nat
  issuer : StationNo
  bank : BankNo
  column : ColumnNo
  bursts : BurstCount
  row : CheckValue
  retried : Bool
deriving DecidableEq, Repr

/-- The last alerted write (R172). -/
structure AlertedWrite where
  issuer : StationNo
  bank : BankNo
  row : CheckValue
  column : ColumnNo
  bursts : BurstCount
  limit : Nat
deriving DecidableEq, Repr

/-- What the data lines carry in one slot (R195). -/
structure DataSlot where
  data : BurstData
  mask : Mask
  check : Byte
deriving DecidableEq, Repr

/-- The Data Unit (R172) and its drive of the data lines in the slot in hand (R176). -/
structure DataUnit where
  attribution : Option Attribution
  fencedEntry : Option Tag
  lastAlerted : Option AlertedWrite
  /-- what the station drives on the data lines in this slot; none is released -/
  driving : Option DataSlot
deriving DecidableEq, Repr

/-! ### Refresh and Quiet Controller (chapter 8) -/

/-- The Refresh and Quiet Controller (R144). -/
structure RefreshQuiet where
  active : Bool
  debt : Nat
  counting : Bool
  periodCount : Nat
  /-- none is UNKNOWN -/
  duty : Option StationNo
  /-- the current quiet permission; none before the record is loaded -/
  permission : Option Bool
  idleCount : Nat
  vote : Bool
deriving DecidableEq, Repr

/-! ### Client Port and Report (chapter 11) -/

/-- The responses of the port (R196). -/
inductive ResponseKind where
  | retired (outcome : EntryOutcome)
  | refused (reason : RefusalReason)
deriving DecidableEq, Repr

/-- A response: its header's fields and the data words that follow it (R196). -/
structure Response where
  kind : ResponseKind
  requestKind : BitVec 4
  tag : Tag
  thread : Thread
  data : List PortWord
deriving DecidableEq, Repr

/-- A response made in the slot in hand, which joins the response list at the slot's end (R188). A REPORT's is made from
the fields as the slot leaves them (R189). -/
inductive Joining where
  | made (r : Response)
  /-- the response of an entry that retired in the slot, with the entry's place in arrival order (R188) -/
  | retired (order : Nat) (r : Response)
  | report (tag : Tag)
deriving DecidableEq, Repr

/-- A write request whose data words are not all taken yet (R186). -/
structure PartialWrite where
  exclusive : Bool
  tag : Tag
  thread : Thread
  bursts : BurstCount
  urgent : Bool
  address : Address
  words : List PortWord
deriving DecidableEq, Repr

/-- The client port (R186 to R188). -/
structure ClientPort where
  /-- the take line of the slot in hand -/
  take : Bool
  inProgress : Option PartialWrite
  /-- the model's own: the requests accepted so far, which number the entries (notes/assumptions/22.md) -/
  admitted : Nat
  joining : List Joining
  /-- the response list, oldest first -/
  responses : List Response
  /-- words of the oldest response already sent -/
  sent : Nat
  /-- what the response path carries in this slot, each word with its start mark -/
  responsePath : List (Bool × PortWord)
deriving DecidableEq, Repr

/-- The fault kinds (R191). -/
inductive FaultKind where
  | badStartRecord | duplicateNumber | configMismatch | claimFault | mirrorFault
  | commandAlert | refreshOverrun | readDataError | writeDataError | orphanWrite
deriving DecidableEq, Repr

/-- The fault record (R191): fault_set has bit k - 1 for the kind of code k. -/
structure FaultRecord where
  first : Option (FaultKind × Byte)
  kinds : BitVec 10
  /-- the attention line of the slot in hand (R192) -/
  attention : Bool
deriving DecidableEq, Repr

/-- The eight counters (R193). -/
structure Counters where
  claimsWon : Counter
  claimsLost : Counter
  requestsCompleted : Counter
  exclusiveFailures : Counter
  readRetries : Counter
  writeRetries : Counter
  resyncs : Counter
  refreshesIssued : Counter
deriving DecidableEq, Repr

/-! ### The lines (chapter 1) -/

/-- The ready and quiet lines as last sampled, and the station's drives in the slot in hand (R6, R7, R9). -/
structure Lines where
  readySample : Bool
  quietSample : Bool
  presence : Bool
  ready : Bool
  /-- whether the station releases the quiet line; it holds it low otherwise -/
  quietReleased : Bool
deriving DecidableEq, Repr

/-! ### The slot in hand: Candidate Selector, Claim Unit, Lane Interface (chapters 1, 6, 7) -/

/-- The class field of the claim word (R128). -/
inductive ClaimClass where
  | idle | ordinary | priority | maintenance
deriving DecidableEq, Repr

/-- Who offers a candidate: an entry of the queue (R125), the Refresh and Quiet Controller (R150), or the Membership Controller for
initialization and recovery (R129). -/
inductive Source where
  /-- an entry, by its queue position and its tag -/
  | queue (position : Nat) (tag : Tag)
  | controller | initialization | recovery
deriving DecidableEq, Repr

/-- A candidate record (R125, R130). -/
structure Candidate where
  source : Source
  command : LaneCommand
  cls : ClaimClass
  score : Nat
deriving DecidableEq, Repr

/-- The claim of the slot: the chosen candidate, the claim word, the bits the station asserted and whether it stayed in
contention through the eleventh bit time (R133, R143). -/
structure Claim where
  candidate : Candidate
  word : ClaimBits
  driven : ClaimBits
  won : Bool
deriving DecidableEq, Repr

/-- The work of the slot in hand (R110, R143). All of it begins afresh at the start of each slot. -/
structure SlotWork where
  /-- the claim phase of the slot has been taken -/
  claimTaken : Bool
  queueCandidate : Option Candidate
  maintenanceCandidate : Option Candidate
  claim : Option Claim
  /-- the word sampled in a won command phase, once read back (R4) -/
  readBack : Option LaneBits
  /-- the read-back differed from the word driven (R139) -/
  faulted : Bool
  /-- what the command phase carried, once observed (R2) -/
  observed : Option Observed
  /-- an end-of-slot event has been taken: the claim phase of the slot is over -/
  ended : Bool
  /-- the first of those events came before the read-back of a won command phase, which was then taken to be equal
  (notes/assumptions/45.md) -/
  presumed : Bool
  /-- it came before the claim phase too, which was then taken to have no other claimant (notes/assumptions/4.md) -/
  claimPresumed : Bool
  /-- the issuer of the command two slots earlier, once this slot's observation has moved the recent issuers on (R78) -/
  issuerTwoBack : Option StationNo
  /-- the start record has been judged in this slot, which is a slot of LOADING: no command of it is taken (R38, R65) -/
  arrived : Bool
  /-- the silence count of the slot is settled by an entry to LISTENING (R43) -/
  silenceSettled : Bool
  /-- the station has entered RESYNC, or set the leave-doubt condition, in this slot; the mirror that this doubted (R51) -/
  doubted : Option KnownMirror
  /-- the WRITE to which an alert of this slot has been attributed (R179) -/
  attributed : Option Attribution
  /-- the attribution record this slot's WRITE has replaced (R179) -/
  replacedAttribution : Option (Option Attribution)
  /-- the first station whose fall has moved the duty pointer in this slot (R149) -/
  dutyFell : Option StationNo
  /-- the stations whose presence lines have been sampled falling in this slot (R172) -/
  fell : StationSet
  /-- the attributed alert has answered this station's own entry DATA_ERROR: its fence is not to stand here (R181) -/
  alertFailed : Bool
  /-- what another station drives on the data lines in this slot, where a step has brought it (R5) -/
  peerBurst : Option DataSlot
  /-- the period count of the slot is settled (R145 to R147) -/
  periodSettled : Bool
  /-- the account has started in this slot, whose end decides whether its timer counts (R145) -/
  accountStarted : Bool
  /-- the idle count of the slot is settled (R155) -/
  idleSettled : Bool
  /-- the slot's burst has been captured (R174) -/
  captured : Bool
  /-- the slot's COMMAND_ERROR alert has been taken -/
  commandAlert : Bool
  /-- the slot's WRITE_CHECK alert has been taken -/
  writeAlert : Bool
  /-- words of a response have been sent in this slot (R187) -/
  responded : Bool
  /-- positions of the request path used in this slot (R186) -/
  positions : Nat
deriving DecidableEq, Repr

/-! ### The channel memory (sections 1.3 to 1.5) -/

/-- The channel memory's own requirements (R10, R11, R21). -/
structure MemoryTiming where
  openDelay : Nat
  rowHold : Nat
  closeDelay : Nat
  writeRecovery : Nat
  turnRW : Nat
  turnWR : Nat
  openSpacing : Nat
  refreshBusy : Nat
  wakeDelay : Nat
  /-- the retention limit, which the manual writes 7 × REFRESH_PERIOD (R21) -/
  retentionLimit : Nat
deriving DecidableEq, Repr

/-- A bank of the channel memory (R11, R12): its open row and its earliest slots. -/
structure MemoryBank where
  row : Option RowNo
  columnFrom : Nat
  heldUntil : Nat
  recoveringUntil : Nat
  openFrom : Nat
deriving DecidableEq, Repr

/-- A data slot that an accepted column command owns (R10, R12). -/
structure OwnedSlot where
  slot : Nat
  direction : Direction
  granule : Nat
  /-- for a READ: the 64 bytes to drive, once the end of the command's slot has fixed them (R18) -/
  data : Option BurstData
  /-- the last data slot of its command -/
  last : Bool
  /-- the model's own: this station's number stood in the command's issuer field (notes/assumptions/10.md) -/
  own : Bool
deriving DecidableEq, Repr

/-- The alert line's content in one slot (R8). -/
structure AlertLine where
  writeCheck : Bool
  commandError : Bool
deriving DecidableEq, Repr

/-- The channel memory (R12). It counts slots by itself, since a station's hard reset does not reach it. -/
structure ChannelMemory where
  now : Nat
  timing : MemoryTiming
  banks : Vector MemoryBank 16
  asleep : Bool
  blockUntil : Nat
  lastOpen : Option Nat
  /-- the last data slot owned by the last accepted column command, with its direction (R10) -/
  lastData : Option (Nat × Direction)
  schedule : List OwnedSlot
  readLatency : BitVec 4
  writeLatency : BitVec 4
  checkEnable : Bool
  alertEnable : Bool
  retaining : Bool
  refreshGap : Nat
  /-- the refresh gap of the slot in hand is settled (notes/assumptions/13.md) -/
  gapSettled : Bool
  /-- the defined bytes of the contents, by byte address, addresses strictly rising; any other byte is undefined -/
  contents : List Host.Cell
  /-- the slots in which a COMMAND_ERROR alert is due (R13) -/
  commandAlerts : List Nat
  /-- the slots in which a WRITE_CHECK alert is due (R20) -/
  writeAlerts : List Nat
  /-- what the alert line carries in the slot in hand -/
  alertLine : AlertLine
  /-- a burst of the WRITE whose data is arriving has been discarded (R19) -/
  writeFailed : Bool
  /-- the READs taken so far, which number the free values (notes/assumptions/11.md) -/
  reads : Nat
deriving DecidableEq, Repr

/-! ### The machine -/

/-- The machine's state. -/
structure State where
  /-- the steps that wait, first in, first out -/
  pending : List Instr
  /-- the slot count: the number of the slot in hand (R1) -/
  slot : Nat
  work : SlotWork
  lines : Lines
  loader : Loader
  membership : Membership
  mirror : Mirror
  queue : List Entry
  table : ReservationTable
  dataUnit : DataUnit
  controller : RefreshQuiet
  port : ClientPort
  faults : FaultRecord
  counters : Counters
  memory : ChannelMemory
deriving DecidableEq, Repr

/-- The work of a slot nothing has happened in yet (R110, R143). -/
def SlotWork.fresh : SlotWork where
  claimTaken := false
  queueCandidate := none
  maintenanceCandidate := none
  claim := none
  readBack := none
  faulted := false
  observed := none
  ended := false
  presumed := false
  claimPresumed := false
  issuerTwoBack := none
  arrived := false
  silenceSettled := false
  doubted := none
  attributed := none
  replacedAttribution := none
  dutyFell := none
  fell := 0
  alertFailed := false
  peerBurst := none
  periodSettled := false
  accountStarted := false
  idleSettled := false
  captured := false
  commandAlert := false
  writeAlert := false
  responded := false
  positions := 0

/-- The typical values of the reference board (section 2.5), which the fitted memory is taken to require
(notes/assumptions/9.md). -/
def MemoryTiming.typical : MemoryTiming where
  openDelay := 4
  rowHold := 10
  closeDelay := 4
  writeRecovery := 5
  turnRW := 2
  turnWR := 3
  openSpacing := 2
  refreshBusy := 40
  wakeDelay := 32
  retentionLimit := 7 * 1560

/-- The channel memory at power-up (R12). -/
def ChannelMemory.powerUp : ChannelMemory where
  now := 0
  timing := MemoryTiming.typical
  banks := Vector.replicate 16 ⟨none, 0, 0, 0, 0⟩
  asleep := false
  blockUntil := 0
  lastOpen := none
  lastData := none
  schedule := []
  readLatency := 15
  writeLatency := 15
  checkEnable := false
  alertEnable := false
  retaining := false
  refreshGap := 0
  gapSettled := false
  contents := []
  commandAlerts := []
  writeAlerts := []
  alertLine := ⟨false, false⟩
  writeFailed := false
  reads := 0

/-- The machine while hard reset is held (R27, R37, R65, R89, R142, R144, R162, R172, R186, R187, R191, R192), with the
channel memory as at power-up (R12). -/
def State.reset : State where
  pending := []
  slot := 0
  work := SlotWork.fresh
  lines := { readySample := false, quietSample := false, presence := false, ready := false, quietReleased := false }
  loader := { straps := none, record := none, settings := none, selected := false, serialOut := false,
              serialClock := false }
  membership :=
    { state := .off, roster := 0, silence := 0, initStep := none, drainTarget := none, leaveDoubt := false }
  mirror := { known := none, kept := none, fence := none }
  queue := []
  table := { reservations := [], lastWrite := none }
  dataUnit := { attribution := none, fencedEntry := none, lastAlerted := none, driving := none }
  controller :=
    { active := false, debt := 0, counting := false, periodCount := 0, duty := none, permission := none,
      idleCount := 0, vote := false }
  port := { take := false, inProgress := none, admitted := 0, joining := [], responses := [], sent := 0, responsePath := [] }
  faults := { first := none, kinds := 0, attention := false }
  counters :=
    { claimsWon := 0, claimsLost := 0, requestsCompleted := 0, exclusiveFailures := 0, readRetries := 0,
      writeRetries := 0, resyncs := 0, refreshesIssued := 0 }
  memory := ChannelMemory.powerUp

/-! ### One named update per block, so that a lemma can say of each what it leaves alone (Laws/State.lean) -/

/-- The state with another queue of waiting steps. -/
def State.withPending (s : State) (p : List Instr) : State := { s with pending := p }
/-- The state with another slot count. -/
def State.withSlot (s : State) (n : Nat) : State := { s with slot := n }
/-- The state with other work of the slot in hand. -/
def State.withWork (s : State) (w : SlotWork) : State := { s with work := w }
/-- The state with other lines. -/
def State.withLines (s : State) (l : Lines) : State := { s with lines := l }
/-- The state with another Start Loader. -/
def State.withLoader (s : State) (l : Loader) : State := { s with loader := l }
/-- The state with another Membership Controller. -/
def State.withMembership (s : State) (m : Membership) : State := { s with membership := m }
/-- The state with another Bank Mirror. -/
def State.withMirror (s : State) (m : Mirror) : State := { s with mirror := m }
/-- The state with another Request Queue. -/
def State.withQueue (s : State) (q : List Entry) : State := { s with queue := q }
/-- The state with another Reservation Table. -/
def State.withTable (s : State) (t : ReservationTable) : State := { s with table := t }
/-- The state with another Data Unit. -/
def State.withDataUnit (s : State) (d : DataUnit) : State := { s with dataUnit := d }
/-- The state with another Refresh and Quiet Controller. -/
def State.withController (s : State) (c : RefreshQuiet) : State := { s with controller := c }
/-- The state with another client port. -/
def State.withPort (s : State) (p : ClientPort) : State := { s with port := p }
/-- The state with another fault record. -/
def State.withFaults (s : State) (f : FaultRecord) : State := { s with faults := f }
/-- The state with other counters. -/
def State.withCounters (s : State) (c : Counters) : State := { s with counters := c }
/-- The state with another channel memory. -/
def State.withMemory (s : State) (m : ChannelMemory) : State := { s with memory := m }

end Sys2Proof.Machine
end

