-- ==== Sys2Proof/Machine/Operands.lean ====
section
/-! DEFINITION. The formats of everything that crosses a boundary of the part (section 11.5): the claim word, the lane
command word, the data slot and its burst check, the client's request and response headers, and the address split. -/

namespace Sys2Proof.Machine

/-! ### Claim word (R128, R194) -/

/-- The class field of the claim word. -/
def ClaimClass.code : ClaimClass → BitVec 2
  | .idle => 0
  | .ordinary => 1
  | .priority => 2
  | .maintenance => 3

/-- The claim word: class, score, station number, most significant first (R128). -/
def claimWord (cls : ClaimClass) (score : Nat) (number : StationNo) : ClaimBits :=
  (cls.code ++ BitVec.ofNat 6 score ++ number).cast rfl

/-! ### Lane command word (R194) -/

/-- The code of a CLOSE_ALL's purpose. -/
def purposeCode : Purpose → BitVec 2
  | .init => 0
  | .refresh => 1
  | .quiet => 2
  | .recover => 3

/-- The purpose of a code. -/
def purposeOf (c : BitVec 2) : Purpose :=
  if c = 0 then .init else if c = 1 then .refresh else if c = 2 then .quiet else .recover

/-- The kind field of a command's word. -/
def commandKind : LaneCommand → BitVec 4
  | .openRow .. => 1
  | .close .. => 2
  | .closeAll .. => 3
  | .read .. => 4
  | .write .. => 5
  | .refresh .. => 6
  | .sleep .. => 7
  | .wake .. => 8
  | .modeSet .. => 9

/-- The check value field: 0 where the kind has none (R194). -/
def commandCheck : LaneCommand → CheckValue
  | .openRow check .. => check
  | .close check _ => check
  | .closeAll check .. => check
  | .read check .. => check
  | .write check .. => check
  | .refresh check => check
  | .sleep check => check
  | .wake _ => 0
  | .modeSet .. => 0

/-- Bits 24 to 0 of a command's word. -/
def commandFields : LaneCommand → BitVec 25
  | .openRow _ bank row => (bank ++ row ++ 0#6).cast rfl
  | .close _ bank => (bank ++ 0#21).cast rfl
  | .closeAll _ purpose digest => (purposeCode purpose ++ digest ++ 0#7).cast rfl
  | .read _ bank column bursts => (bank ++ column ++ bursts ++ 0#13).cast rfl
  | .write _ bank column bursts => (bank ++ column ++ bursts ++ 0#13).cast rfl
  | .refresh _ => 0
  | .sleep _ => 0
  | .wake digest => (0#2 ++ digest ++ 0#7).cast rfl
  | .modeSet item value => (item ++ value ++ 0#19).cast rfl

/-- The word of a command from an issuer (R194). -/
def encodeCommand (issuer : StationNo) (c : LaneCommand) : LaneBits :=
  (commandKind c ++ issuer ++ commandCheck c ++ commandFields c).cast rfl

/-- The issuer field of a word. -/
def wordIssuer (w : LaneBits) : StationNo := w.extractLsb' 41 3

/-- What a word on the command lines is (R194): kind 0 is the empty command whatever its other bits, kinds 10 to 15 are
undefined commands, and bits marked zero are ignored on receipt. -/
def decodeCommand (w : LaneBits) : Observed :=
  let check : CheckValue := w.extractLsb' 25 16
  let bank : BankNo := w.extractLsb' 21 4
  let digest : Digest := w.extractLsb' 7 16
  let i := wordIssuer w
  match (w.extractLsb' 44 4).toNat with
  | 0 => .empty
  | 1 => .command i (.openRow check bank (w.extractLsb' 6 15))
  | 2 => .command i (.close check bank)
  | 3 => .command i (.closeAll check (purposeOf (w.extractLsb' 23 2)) digest)
  | 4 => .command i (.read check bank (w.extractLsb' 16 5) (w.extractLsb' 13 3))
  | 5 => .command i (.write check bank (w.extractLsb' 16 5) (w.extractLsb' 13 3))
  | 6 => .command i (.refresh check)
  | 7 => .command i (.sleep check)
  | 8 => .command i (.wake digest)
  | 9 => .command i (.modeSet (w.extractLsb' 23 2) (w.extractLsb' 19 4))
  | _ => .undefined i

/-- The step that reports a lane command of an issuer. -/
def laneStep (i : StationNo) : LaneCommand → Instr
  | .openRow check bank row => .openCommand i check bank row
  | .close check bank => .closeCommand i check bank
  | .closeAll check purpose digest => .closeAllCommand i check purpose digest
  | .read check bank column bursts => .readCommand i check bank column bursts
  | .write check bank column bursts => .writeCommand i check bank column bursts
  | .refresh check => .refreshCommand i check
  | .sleep check => .sleepCommand i check
  | .wake digest => .wakeCommand i digest
  | .modeSet item value => .modeSetCommand i item value

/-- The step that reports what a word on the command lines is (R194). -/
def wordStep (w : LaneBits) : Instr :=
  match decodeCommand w with
  | .empty => .emptySlot
  | .undefined i => .undefinedCommand (w.extractLsb' 44 4) i
  | .command i c => laneStep i c

/-- The issuer an observation names, none for an empty command phase (R64). -/
def observedIssuer : Observed → Option StationNo
  | .empty => none
  | .undefined i => some i
  | .command i _ => some i

/-- A sync point: a CLOSE_ALL of any purpose, or a WAKE, with the digest it carries (R74). -/
def syncDigest : LaneCommand → Option Digest
  | .closeAll _ _ d => some d
  | .wake d => some d
  | _ => none

/-! ### Burst check and data slot (R173, R195) -/

/-- One shift of the burst check's register. -/
def crcShift (r : Byte) : Byte := if r.msb then (r <<< 1) ^^^ 0x07#8 else r <<< 1

/-- The register after one byte. -/
def crcByte (r b : Byte) : Byte :=
  crcShift (crcShift (crcShift (crcShift (crcShift (crcShift (crcShift (crcShift (r ^^^ b))))))))

/-- The register after the eight bytes of one data word, byte 0 first. -/
def crcWord (r : Byte) (w : PortWord) : Byte :=
  [0, 1, 2, 3, 4, 5, 6, 7].foldl (fun r j => crcByte r (w.extractLsb' (8 * j) 8)) r

/-- The burst check over the 64 data bytes in address order (R173). -/
def burstCheck (d : BurstData) : Byte := d.toList.foldl crcWord 0

/-- Byte j of a burst (R195). -/
def burstByte (d : BurstData) (j : Nat) : Byte := (d.toList.getD (j / 8) 0).extractLsb' (8 * (j % 8)) 8

/-- Word k of a burst, from the burst's bytes (R196). -/
def wordOfBytes (f : Nat → Byte) (k : Nat) : PortWord :=
  (f (8 * k + 7) ++ f (8 * k + 6) ++ f (8 * k + 5) ++ f (8 * k + 4) ++ f (8 * k + 3) ++ f (8 * k + 2) ++
    f (8 * k + 1) ++ f (8 * k)).cast rfl

/-- A burst from its bytes. -/
def burstOfBytes (f : Nat → Byte) : BurstData :=
  #v[wordOfBytes f 0, wordOfBytes f 1, wordOfBytes f 2, wordOfBytes f 3, wordOfBytes f 4, wordOfBytes f 5,
    wordOfBytes f 6, wordOfBytes f 7]

/-- A data slot that nobody drives (R5). -/
def undrivenSlot : DataSlot := ⟨zeroBurst, 0, Config.undrivenCheck⟩

/-! ### The address split (channel geometry) -/

/-- The offset, the low 6 bits. -/
def addressOffset (a : Address) : BitVec 6 := a.extractLsb' 0 6
/-- The column, the next 5 bits. -/
def addressColumn (a : Address) : ColumnNo := a.extractLsb' 6 5
/-- The bank, the next 4 bits. -/
def addressBank (a : Address) : BankNo := a.extractLsb' 11 4
/-- The row, the top 15 bits. -/
def addressRow (a : Address) : RowNo := a.extractLsb' 15 15
/-- The granule a byte address lies in (R35). -/
def addressGranule (a : Address) : Nat := a.toNat / 64
/-- The granule of a column of a row of a bank (R35). -/
def granuleOf (row bank column : Nat) : Nat := row * 512 + bank * 32 + column

/-! ### Request header and data words (R186, R196) -/

/-- The fields of a request header (R196). -/
structure RequestHeader where
  kind : BitVec 4
  tag : Tag
  thread : Thread
  bursts : BurstCount
  urgent : Bool
  quietValue : Bool
  address : Address
deriving DecidableEq, Repr

/-- The word of a request header, zero fields sent as 0. -/
def encodeHeader (h : RequestHeader) : PortWord :=
  (h.kind ++ h.tag ++ h.thread ++ h.bursts ++ BitVec.ofBool h.urgent ++ BitVec.ofBool h.quietValue ++ 0#16 ++
    h.address).cast rfl

/-- The fields of a header word, zero fields ignored. -/
def decodeHeader (w : PortWord) : RequestHeader where
  kind := w.extractLsb' 60 4
  tag := w.extractLsb' 55 5
  thread := w.extractLsb' 51 4
  bursts := w.extractLsb' 48 3
  urgent := w.getLsbD 47
  quietValue := w.getLsbD 46
  address := w.extractLsb' 0 30

/-- The step that a header and the words taken with it bring about, by the header's kind code (R186, R188, R196). Fields
that the kind does not use are ignored. -/
def requestStep (h : RequestHeader) (words : List PortWord) : Instr :=
  match h.kind.toNat with
  | 0 => .readRequest h.tag h.thread h.bursts h.urgent h.address
  | 1 => .writeRequest h.tag h.thread h.bursts h.urgent h.address words
  | 2 => .exclReadRequest h.tag h.thread h.bursts h.address
  | 3 => .exclWriteRequest h.tag h.thread h.bursts h.address words
  | 4 => .fence h.tag
  | 5 => .quietPermit h.tag h.quietValue
  | 6 => .leave h.tag
  | 7 => .join h.tag
  | 8 => .restart h.tag
  | 9 => .report h.tag
  | 10 => .clear h.tag
  | _ => .undefinedRequestKind h.kind h.tag

/-- The data words a write kind's header calls for: nine a burst (R186). -/
def writeWords (bursts : BurstCount) : Nat := 9 * bursts.toNat

/-- The bursts of a write request's words: eight data words, then the mask word, burst by burst (R196). -/
def writeBursts : List PortWord → List WriteBurst
  | w0 :: w1 :: w2 :: w3 :: w4 :: w5 :: w6 :: w7 :: m :: rest =>
    ⟨#v[w0, w1, w2, w3, w4, w5, w6, w7], m⟩ :: writeBursts rest
  | _ => []

/-! ### Kind codes and response words (R196) -/

/-- The kind code of a memory request. -/
def memKindCode : MemKind → BitVec 4
  | .read => 0
  | .write => 1
  | .exclRead => 2
  | .exclWrite => 3

/-- The response field. -/
def responseCode : ResponseKind → BitVec 3
  | .retired .ok => 0
  | .retired .exokay => 1
  | .retired .exfail => 2
  | .retired .dataError => 3
  | .retired .aborted => 4
  | .refused _ => 5

/-- The reason field: 0 for a response other than REFUSED. -/
def reasonCode : ResponseKind → BitVec 3
  | .refused .starting => 0
  | .refused .notMember => 1
  | .refused .full => 2
  | .refused .tagInUse => 3
  | .refused .align => 4
  | .refused .range => 5
  | .refused .access => 6
  | .refused .badState => 7
  | .retired _ => 0

/-- The header word of a response. -/
def responseHeader (r : Response) : PortWord :=
  (responseCode r.kind ++ reasonCode r.kind ++ r.requestKind ++ r.tag ++ r.thread ++ BitVec.ofNat 6 r.data.length ++
    0#39).cast rfl

/-- The words of a response, each with its start mark: the header's high, the data words' low (R187). -/
def responseWords (r : Response) : List (Bool × PortWord) :=
  (true, responseHeader r) :: r.data.map fun w => (false, w)

end Sys2Proof.Machine
end

