-- ==== Sys2Proof/Decode.lean ====
section
/-! DEFINITION. The words that spell a step. No row of spec/opcode_table.json gives bits of its own; the words are those of the
formats of section 11.5: a lane command word and a request header (notes/assumptions/34.md). -/

namespace Sys2Proof

/-- The step that a word spells: 48 bits are a lane command word as the command lines carry it, by its kind field (R194); 64 bits
are a request header, by its kind code, with no data word taken with it (R196). No other width is a format of the part. -/
def decodeTableWord (nbits w : Nat) : Option Instr :=
  if nbits = 48 then some (Machine.wordStep (BitVec.ofNat 48 w))
  else if nbits = 64 then some (Machine.requestStep (Machine.decodeHeader (BitVec.ofNat 64 w)) [])
  else none

end Sys2Proof
end

