-- ==== Sys2Proof/Machine/Flags.lean ====
section
/-! DEFINITION. The fault record, the attention line, the counters and the station's drives of the lines. -/

namespace Sys2Proof.Machine

/-- The code of a fault kind in the report record (R191). -/
def FaultKind.code : FaultKind → Nat
  | .badStartRecord => 1
  | .duplicateNumber => 2
  | .configMismatch => 3
  | .claimFault => 4
  | .mirrorFault => 5
  | .commandAlert => 6
  | .refreshOverrun => 7
  | .readDataError => 8
  | .writeDataError => 9
  | .orphanWrite => 10

/-- fault_set holding one kind. -/
def FaultKind.bit (k : FaultKind) : BitVec 10 := 1#10 <<< (k.code - 1)

/-- A station number as a fault detail. -/
def stationDetail (n : StationNo) : Byte := n.setWidth 8

/-- A station number, or no station, as a fault detail (R197). -/
def optionalDetail : Option StationNo → Byte
  | some n => stationDetail n
  | none => Config.noStation

/-- A tag as a fault detail. -/
def tagDetail (t : Tag) : Byte := t.setWidth 8

/-- Recording a fault (R191): its kind joins fault_set, and first_fault takes it if absent. -/
def FaultRecord.add (f : FaultRecord) (k : FaultKind) (detail : Byte) : FaultRecord :=
  { f with first := f.first.orElse fun _ => some (k, detail), kinds := f.kinds ||| k.bit }

/-- The fault record emptied by a CLEAR (R190). -/
def FaultRecord.cleared (f : FaultRecord) : FaultRecord := { f with first := none, kinds := 0 }

/-- Recording a fault changes the fault record and no other state of the station (R191). -/
def recordFault (k : FaultKind) (detail : Byte) (s : State) : State := s.withFaults (s.faults.add k detail)

/-- The loaded configuration, as the blocks read it (R33). -/
def State.settings (s : State) : Settings := s.loader.settings.getD Settings.unloaded

/-- The channel timing set of the loaded configuration. -/
def State.timing (s : State) : Timing := s.settings.timing

/-- The held station number (R25). -/
def State.number (s : State) : StationNo := s.loader.straps.getD 0

/-- The station drives its presence line in this state (R9); a draining station keeps the line as it was. -/
def presenceDrive (m : Membership) (held : Bool) : Bool :=
  match m.state with
  | .listening | .initializing | .member | .resync | .leaving => true
  | .draining => held
  | .off | .loading | .detached | .withdrawn => false

/-- The station drives the ready line in this state (R9). -/
def readyDrive (m : Membership) : Bool :=
  match m.state with
  | .member | .resync | .leaving => true
  | .off | .loading | .listening | .initializing | .draining | .detached | .withdrawn => false

/-- The station releases the quiet line in this state: a MEMBER while its vote is cast, a DETACHED or WITHDRAWN station
always (R9, R156). -/
def quietRelease (m : Membership) (vote : Bool) : Bool :=
  match m.state with
  | .member => vote
  | .detached | .withdrawn => true
  | .off | .loading | .listening | .initializing | .resync | .leaving | .draining => false

/-- The drives of the next slot, from the state the slot in hand leaves (R9). -/
def nextDrives (s : State) : Lines :=
  { s.lines with
    presence := presenceDrive s.membership s.lines.presence
    ready := readyDrive s.membership
    quietReleased := quietRelease s.membership s.controller.vote }

/-- The attention line of the next slot (R192). -/
def nextAttention (f : FaultRecord) : Bool := decide (f.kinds ≠ 0)

/-- The take line of the next slot (R187). -/
def nextTake (s : State) : Bool :=
  decide (s.membership.state ≠ .off) && decide (s.port.responses.length ≤ Config.takeLimit)

end Sys2Proof.Machine
end

