-- ==== Sys2Proof/Machine/Memory.lean ====
section
/-! DEFINITION. The channel memory (sections 1.3 to 1.5): the bytes of its contents, its acceptance of commands (R10, R11,
R13), the effect of each accepted command (R14 to R24), and what it does at the end of every slot. -/

namespace Sys2Proof.Machine

/-! ### Contents: the defined bytes, by byte address -/

/-- Memory.wf: the addresses of the listed bytes rise strictly. An unlisted byte is undefined (R12), which no listed byte
is, so this form is canonical. -/
def contentsOk : List Host.Cell → Bool
  | [] => true
  | [_] => true
  | (a, _) :: (b, y) :: rest => decide (a < b) && contentsOk ((b, y) :: rest)

/-- The byte at an address; none where the content is undefined. -/
def readByte : List Host.Cell → Nat → Option Byte
  | [], _ => none
  | (b, y) :: rest, a => if a = b then some y else readByte rest a

/-- The contents with one byte stored. -/
def storeByte : List Host.Cell → Nat → Byte → List Host.Cell
  | [], a, x => [(a, x)]
  | (b, y) :: rest, a, x =>
    if a < b then (a, x) :: (b, y) :: rest
    else if a = b then (a, x) :: rest
    else (b, y) :: storeByte rest a x

/-- The contents with one byte undefined. -/
def forgetByte : List Host.Cell → Nat → List Host.Cell
  | [], _ => []
  | (b, y) :: rest, a => if a = b then rest else (b, y) :: forgetByte rest a

/-- The byte numbers of a granule. -/
def granuleBytes : List Nat := List.range 64

/-- The contents with a granule's masked-in bytes stored (R19). -/
def storeGranule (m : List Host.Cell) (granule : Nat) (d : BurstData) (mask : Mask) : List Host.Cell :=
  granuleBytes.foldl (fun m j => if mask.getLsbD j then storeByte m (64 * granule + j) (burstByte d j) else m) m

/-- The contents with a granule undefined. -/
def forgetGranule (m : List Host.Cell) (granule : Nat) : List Host.Cell :=
  granuleBytes.foldl (fun m j => forgetByte m (64 * granule + j)) m

/-- The 64 bytes of a granule as READ number `n` finds them: an undefined byte reads as a free value (R18). -/
def readGranule (m : List Host.Cell) (n granule : Nat) : BurstData :=
  burstOfBytes fun j =>
    (readByte m (64 * granule + j)).getD (Config.undefinedByte n (64 * granule + j))

/-! ### Acceptance (R10, R11, R13) -/

/-- A bank of the memory. -/
def ChannelMemory.bank (m : ChannelMemory) (k : BankNo) : MemoryBank := m.banks.get k.toFin

/-- The memory with a bank replaced. -/
def ChannelMemory.withBank (m : ChannelMemory) (k : BankNo) (b : MemoryBank) : ChannelMemory :=
  { m with banks := m.banks.set k.toNat b k.isLt }

/-- Every bank of the memory changed alike. -/
def ChannelMemory.mapBanks (m : ChannelMemory) (f : MemoryBank → MemoryBank) : ChannelMemory :=
  { m with banks := ⟨⟨m.banks.toList.map f⟩, by simp⟩ }

/-- The latency of a column command of a direction, by the memory's mode items (R10). -/
def ChannelMemory.latency (m : ChannelMemory) : Direction → Nat
  | .read => m.readLatency.toNat
  | .write => m.writeLatency.toNat

/-- The first slot the data lines allow a column command's data (R10). -/
def ChannelMemory.dataFrom (m : ChannelMemory) (d : Direction) : Nat :=
  match m.lastData with
  | none => m.now + 1
  | some (last, previous) =>
    last + 1 +
      (match previous, d with
      | .read, .write => m.timing.turnRW
      | .write, .read => m.timing.turnWR
      | _, _ => 0)

/-- A bank that a CLOSE would be refused for: open, with its ROW_HOLD or WRITE_RECOVERY running (R11). -/
def ChannelMemory.bankHeld (m : ChannelMemory) (b : MemoryBank) : Bool :=
  b.row.isSome && (decide (m.now < b.heldUntil) || decide (m.now < b.recoveringUntil))

/-- The memory takes a column command of a direction (R13). -/
def ChannelMemory.acceptsColumn (m : ChannelMemory) (d : Direction) (bank : BankNo) (column : ColumnNo)
    (bursts : BurstCount) : Bool :=
  !m.asleep && (m.bank bank).row.isSome && decide ((m.bank bank).columnFrom ≤ m.now) &&
    decide (1 ≤ bursts.toNat) && decide (bursts.toNat ≤ 4) && decide (column.toNat + bursts.toNat ≤ 32) &&
    decide (m.dataFrom d ≤ m.now + m.latency d)

/-- Every bank is CLOSED with its CLOSE_DELAY expired, and the data schedule holds no slot from this one on: what REFRESH
and SLEEP need (R13). -/
def ChannelMemory.settled (m : ChannelMemory) : Bool :=
  m.banks.toList.all (fun b => b.row.isNone && decide (b.openFrom ≤ m.now)) &&
    m.schedule.all fun o => decide (o.slot < m.now)

/-- The memory accepts a command taken in the slot in hand (R13). -/
def ChannelMemory.accepts (m : ChannelMemory) (c : LaneCommand) : Bool :=
  decide (m.blockUntil ≤ m.now) &&
    match c with
    | .openRow _ bank _ =>
      !m.asleep && (m.bank bank).row.isNone && decide ((m.bank bank).openFrom ≤ m.now) &&
        (match m.lastOpen with
        | none => true
        | some o => decide (o + m.timing.openSpacing ≤ m.now))
    | .close _ bank => !m.asleep && (m.bank bank).row.isSome && !m.bankHeld (m.bank bank)
    | .closeAll _ .init _ => true
    | .closeAll _ _ _ => !m.asleep && m.banks.toList.all fun b => !m.bankHeld b
    | .read _ bank column bursts => m.acceptsColumn .read bank column bursts
    | .write _ bank column bursts => m.acceptsColumn .write bank column bursts
    | .refresh _ => !m.asleep && m.settled
    | .sleep _ => !m.asleep && m.settled
    | .wake _ => m.asleep
    | .modeSet item value =>
      if item = 0 then decide (2 ≤ value.toNat)
      else if item = 1 then decide (1 ≤ value.toNat)
      else decide (value.toNat ≤ 1)

/-! ### The effect of an accepted command (R14 to R24) -/

/-- The data slots that a column command owns (R10). -/
def ChannelMemory.own (m : ChannelMemory) (d : Direction) (bank : BankNo) (column : ColumnNo) (bursts : BurstCount)
    (own : Bool) : List OwnedSlot :=
  (List.range bursts.toNat).map fun i =>
    { slot := m.now + m.latency d + i
      direction := d
      granule := granuleOf (((m.bank bank).row.getD 0).toNat) bank.toNat (column.toNat + i)
      data := none
      last := decide (i + 1 = bursts.toNat)
      own := own }

/-- The data schedule after an accepted column command (R10). -/
def ChannelMemory.addData (m : ChannelMemory) (d : Direction) (bank : BankNo) (column : ColumnNo) (bursts : BurstCount)
    (own : Bool) : ChannelMemory :=
  { m with
    schedule := m.schedule ++ m.own d bank column bursts own
    lastData := some (m.now + m.latency d + bursts.toNat - 1, d) }

/-- Every bank CLOSED, with CLOSE_DELAY from the slot in hand (R16, R17). -/
def ChannelMemory.closeEvery (m : ChannelMemory) : ChannelMemory :=
  m.mapBanks fun b => { b with row := none, openFrom := m.now + m.timing.closeDelay }

/-- The effect of an accepted command. `own` says whether the issuer field names this station, for the data of a WRITE. -/
def ChannelMemory.effect (m : ChannelMemory) (own : Bool) (c : LaneCommand) : ChannelMemory :=
  match c with
  | .openRow _ bank row =>
    { m.withBank bank
        { m.bank bank with
          row := some row, columnFrom := m.now + m.timing.openDelay, heldUntil := m.now + m.timing.rowHold,
          recoveringUntil := 0 } with
      lastOpen := some m.now }
  | .close _ bank => m.withBank bank { m.bank bank with row := none, openFrom := m.now + m.timing.closeDelay }
  | .closeAll _ .init _ =>
    { m.closeEvery with
      asleep := false, blockUntil := m.now + m.timing.wakeDelay, retaining := true, refreshGap := 0,
      gapSettled := true, contents := [] }
  | .closeAll _ _ _ => m.closeEvery
  | .read _ bank column bursts => m.addData .read bank column bursts own
  | .write _ bank column bursts =>
    (m.addData .write bank column bursts own).withBank bank
      { m.bank bank with
        recoveringUntil := m.now + m.writeLatency.toNat + bursts.toNat + m.timing.writeRecovery }
  | .refresh _ => { m with blockUntil := m.now + m.timing.refreshBusy, refreshGap := 0, gapSettled := true }
  | .sleep _ => { m with asleep := true, gapSettled := true }
  | .wake _ =>
    { m with asleep := false, blockUntil := m.now + m.timing.wakeDelay, refreshGap := 0, gapSettled := true }
  | .modeSet item value =>
    if item = 0 then { m with readLatency := value }
    else if item = 1 then { m with writeLatency := value }
    else if item = 2 then { m with checkEnable := decide (value = 1) }
    else { m with alertEnable := decide (value = 1) }

/-- A command error: the command is ignored, and a COMMAND_ERROR alert is due two slots later (R13). -/
def ChannelMemory.refuse (m : ChannelMemory) : ChannelMemory :=
  { m with commandAlerts := m.commandAlerts ++ [m.now + 2] }

/-- The memory takes what the command phase carried (R2, R13, R194). -/
def ChannelMemory.take (m : ChannelMemory) (own : StationNo → Bool) : Observed → ChannelMemory
  | .empty => m
  | .undefined _ => m.refuse
  | .command i c => if m.accepts c then m.effect (own i) c else m.refuse

/-! ### The data lines and the end of a slot (R5, R8, R18 to R21) -/

/-- The data slot that the memory owns in the slot in hand. -/
def ChannelMemory.current (m : ChannelMemory) : Option OwnedSlot := m.schedule.find? fun o => decide (o.slot = m.now)

/-- What the data lines carry in the slot in hand: the station's own drive, the memory's drive for a READ with the check
byte it computes (R18), or nothing (R5). -/
def dataLines (driving : Option DataSlot) (m : ChannelMemory) : DataSlot :=
  match driving with
  | some d => d
  | none =>
    match m.current with
    | some o =>
      match o.direction, o.data with
      | .read, some d => ⟨d, 0, burstCheck d⟩
      | _, _ => undrivenSlot
    | none => undrivenSlot

/-- The contents after a burst that passes (R19); while retention is lost they stay undefined (R21). -/
def ChannelMemory.store (m : ChannelMemory) (granule : Nat) (d : DataSlot) : ChannelMemory :=
  if m.retaining then { m with contents := storeGranule m.contents granule d.data d.mask } else m

/-- A WRITE's last data slot has ended: WRITE_CHECK is due in the next slot if one of its bursts was discarded (R20). -/
def ChannelMemory.endWrite (m : ChannelMemory) (last : Bool) : ChannelMemory :=
  if last then
    { m with
      writeFailed := false
      writeAlerts := if m.writeFailed then m.writeAlerts ++ [m.now + 1] else m.writeAlerts }
  else m

/-- The memory takes the burst of a WRITE's data slot at the slot's end (R19). A burst that another station drives
is not known where no step has brought it: the granule then becomes undefined, a free value (notes/assumptions/10.md). -/
def ChannelMemory.receive (m : ChannelMemory) (driving : Option DataSlot) (o : OwnedSlot) : ChannelMemory :=
  let judged : ChannelMemory :=
    match driving, o.own with
    | none, false => { m with contents := forgetGranule m.contents o.granule }
    | driving, _ =>
      let d := driving.getD undrivenSlot
      if m.checkEnable && decide (burstCheck d.data ≠ d.check) then { m with writeFailed := true }
      else m.store o.granule d
  judged.endWrite o.last

/-- The bytes of the READs taken in this slot are fixed as they stand at its end (R18). They are driven so in their data slots, also
where retention has been lost between: DESIGN CHOICE (notes/assumptions/43.md). -/
def ChannelMemory.fixReads (m : ChannelMemory) : ChannelMemory :=
  { m with
    schedule := m.schedule.map fun o =>
      match o.direction, o.data with
      | .read, none => { o with data := some (readGranule m.contents m.reads o.granule) }
      | _, _ => o
    reads := m.reads + 1 }

/-- The refresh gap rises in an awake slot, and retention is lost when it would pass the limit (R21). -/
def ChannelMemory.ageRetention (m : ChannelMemory) : ChannelMemory :=
  if m.asleep || m.gapSettled then m
  else if m.timing.retentionLimit < m.refreshGap + 1 then
    { m with refreshGap := m.refreshGap + 1, retaining := false, contents := [] }
  else { m with refreshGap := m.refreshGap + 1 }

/-- The alert line of the slot in hand: the alerts due in it, if the alert enable item is 1 (R8). -/
def ChannelMemory.drivenAlerts (m : ChannelMemory) : AlertLine where
  writeCheck := m.alertEnable && m.writeAlerts.contains m.now
  commandError := m.alertEnable && m.commandAlerts.contains m.now

/-- What is past is dropped from the schedule and the alerts, and the alert line of the new slot is driven. -/
def ChannelMemory.openSlot (m : ChannelMemory) : ChannelMemory :=
  { m with
    schedule := m.schedule.filter fun o => decide (m.now ≤ o.slot)
    commandAlerts := m.commandAlerts.filter fun a => decide (m.now ≤ a)
    writeAlerts := m.writeAlerts.filter fun a => decide (m.now ≤ a)
    alertLine := m.drivenAlerts
    gapSettled := false }

/-- The end of a slot at the memory, and the start of the next. A CLOSE_ALL(INIT) of the slot has emptied the contents before the
slot's burst is stored, which stays defined (R17), and the READs of the slot take their bytes before retention is lost at its
end (R21): DESIGN CHOICE in both, the manual gives no order (notes/assumptions/42.md, 43.md). A MODE_SET of check enable of the
slot has been applied before the slot's burst is judged, by the new value (R24): DESIGN CHOICE (notes/assumptions/50.md). -/
def ChannelMemory.endSlot (m : ChannelMemory) (driving : Option DataSlot) : ChannelMemory :=
  let m : ChannelMemory :=
    match m.current with
    | some o =>
      match o.direction with
      | .write => m.receive driving o
      | .read => m
    | none => m
  let m := m.fixReads.ageRetention
  ChannelMemory.openSlot { m with now := m.now + 1 }

end Sys2Proof.Machine
end

