-- ==== Sys2Proof/Machine/Loader.lean ====
section
/-! DEFINITION. The Start Loader (chapter 2): the fields of the start record, its tests in their order, the loaded
configuration and the channel digest. -/

namespace Sys2Proof.Machine

/-- The 44 words of a start record. -/
abbrev Record := Vector RecordWord 44

/-- The words that the bits of the record make as they are shifted in, word 0 first, each word bit 15 first (R26, R198). -/
def recordOfBits (bits : SerialRecord) : Record :=
  ⟨⟨(List.range 44).map fun k => bits.extractLsb' (16 * (43 - k)) 16⟩, by simp⟩

/-- The bits that a device which is absent or does not answer gives: the input line at its pull-up (R26). -/
def absentBits : SerialRecord := BitVec.allOnes 704

/-- The last record bit arrives in this slot, or has arrived (R26). -/
def readOver (slot : Nat) : Bool := decide (Config.recordReadSlots ≤ slot + 1)

/-- The unsigned number a word of the record carries (R28). -/
def recordField (r : Record) (k : Nat) : Nat := (r.toList.getD k 0).toNat

/-- The number a pair of words carries, high word first (R28). -/
def recordPair (r : Record) (k : Nat) : Nat := recordField r k * 65536 + recordField r (k + 1)

/-- The sum of all 44 words (R29). -/
def recordSum (r : Record) : Nat := (r.toList.map BitVec.toNat).sum

/-- The numbers of the used windows (R28). -/
def usedWindows (r : Record) : List Nat := List.range (min (recordField r 22) 4)

/-- A test of the record: whether it passes, and the detail of its failure. -/
abbrev RecordTest := Bool × Nat

/-- A range test of the field of one word. -/
def rangeTest (r : Record) (k low high : Nat) : RecordTest :=
  (decide (low ≤ recordField r k) && decide (recordField r k ≤ high), k)

/-- The range tests of words 1 to 22, in word order (section 2.3, R30). -/
def fieldTests (r : Record) : List RecordTest :=
  [rangeTest r 1 2 15, rangeTest r 2 4 63, rangeTest r 3 2 15, rangeTest r 4 2 15, rangeTest r 5 2 15, rangeTest r 6 1 15,
    rangeTest r 7 1 7, rangeTest r 8 1 7, rangeTest r 9 1 15, rangeTest r 10 6 31, rangeTest r 11 6 63] ++
  [rangeTest r 12 8 255, rangeTest r 13 256 65535, rangeTest r 14 8 255, rangeTest r 15 16 65535, rangeTest r 16 64 65535,
    rangeTest r 17 1 7, rangeTest r 18 0 31, rangeTest r 19 0 15, rangeTest r 20 0 1, rangeTest r 21 0 1, rangeTest r 22 1 4]

/-- The range tests of one window's words (R28, R30). -/
def windowTests (r : Record) (n : Nat) : List RecordTest :=
  [(decide (recordPair r (23 + 5 * n) ≤ 16777215), 23 + 5 * n),
    (decide (recordPair r (25 + 5 * n) ≤ 16777215), 25 + 5 * n), rangeTest r (27 + 5 * n) 1 3]

/-- The relations between fields (R31). -/
def relationTests (r : Record) : List RecordTest :=
  [(decide (recordField r 6 + 5 ≤ recordField r 10), 10), (decide (recordField r 10 ≤ recordField r 11), 11),
    (decide (recordField r 12 < recordField r 16), 16), (decide (recordField r 14 < recordField r 16), 16)] ++
  (usedWindows r).map fun n => (decide (recordPair r (23 + 5 * n) ≤ recordPair r (25 + 5 * n)), 25 + 5 * n)

/-- The tests of the record in their order (R29 to R31). -/
def recordTests (r : Record) : List RecordTest :=
  [(decide (recordField r 0 = 1), 0), (decide (recordSum r % 65536 = 0), 43)] ++ fieldTests r ++
    (usedWindows r).flatMap (windowTests r) ++ relationTests r

/-- The judgement of the record: none when it is good, else the detail of its first failing test (R29 to R31). -/
def judgeRecord (r : Record) : Option Nat := ((recordTests r).find? fun t => !t.1).map Prod.snd

/-- The channel digest (R34). -/
def recordDigest (r : Record) : Digest :=
  BitVec.ofNat 16 (((List.range 14).map fun k => (k + 1) * recordField r (k + 1)).sum)

/-- The fourteen timing fields (section 2.3). -/
def recordTiming (r : Record) : Timing where
  openDelay := recordField r 1
  rowHold := recordField r 2
  closeDelay := recordField r 3
  writeRecovery := recordField r 4
  readLatency := recordField r 5
  writeLatency := recordField r 6
  turnRW := recordField r 7
  turnWR := recordField r 8
  openSpacing := recordField r 9
  alertWindow := recordField r 10
  writeSpacing := recordField r 11
  refreshBusy := recordField r 12
  refreshPeriod := recordField r 13
  wakeDelay := recordField r 14

/-- One window of the record. -/
def recordWindow (r : Record) (n : Nat) : Window :=
  ⟨recordPair r (23 + 5 * n), recordPair r (25 + 5 * n), recordField r (27 + 5 * n)⟩

/-- RESYNC_HOLD (R33). -/
def resyncHold (t : Timing) : Nat := max t.rowHold (t.writeLatency + 4 + t.writeRecovery)

/-- The loaded configuration of a good record (R33). -/
def recordSettings (r : Record) : Settings where
  timing := recordTiming r
  idleWait := recordField r 15
  listenWait := recordField r 16
  ageStep := recordField r 17
  ageMax := recordField r 18
  guardMax := recordField r 19
  priorityPermit := decide (recordField r 20 = 1)
  quietPermit := decide (recordField r 21 = 1)
  windows := (usedWindows r).map (recordWindow r)
  resyncHold := resyncHold (recordTiming r)
  digest := recordDigest r

/-- The serial output in slot `n` of LOADING: the read request, bit 15 first (R26, R198). After its sixteen bits the line is low
while select is asserted: DESIGN CHOICE, the manual is silent (notes/assumptions/17.md). -/
def serialBit (n : Nat) : Bool := decide (n < 16) && Config.readRequest.getLsbD (15 - n)

/-- The rights a memory request needs of a window (R35): bit 0 to read, bit 1 to write. -/
def rightsFor : MemKind → Nat
  | .read => 1
  | .write => 2
  | .exclRead => 3
  | .exclWrite => 3

/-- A window covers a run of granules with the rights a kind needs (R35). -/
def Window.admits (w : Window) (kind : MemKind) (first last : Nat) : Bool :=
  decide (w.base ≤ first) && decide (last ≤ w.limit) && decide (w.rights &&& rightsFor kind = rightsFor kind)

end Sys2Proof.Machine
end

