-- ==== Sys2Proof/Machine/Mirror.lean ====
section
/-! DEFINITION. The Bank Mirror (chapter 4): what each observed command does to the kept fields and to a known mirror, the
mirror check, the sync points, and the eligibility of every command. -/

namespace Sys2Proof.Machine

/-! ### Records -/

/-- A bank's record. -/
def KnownMirror.bank (m : KnownMirror) (k : BankNo) : BankRecord := m.banks.get k.toFin

/-- The mirror with a bank's record replaced. -/
def KnownMirror.withBank (m : KnownMirror) (k : BankNo) (b : BankRecord) : KnownMirror :=
  { m with banks := m.banks.set k.toNat b k.isLt }

/-- Every bank's record changed alike. -/
def KnownMirror.mapBanks (m : KnownMirror) (f : BankRecord → BankRecord) : KnownMirror :=
  { m with banks := ⟨⟨m.banks.toList.map f⟩, by simp⟩ }

/-- The row a mirror holds open in a bank. -/
def KnownMirror.openRow (m : KnownMirror) (k : BankNo) : Option RowNo := (m.bank k).opened.map OpenRow.row

/-- The number of banks the mirror holds OPEN (R75). -/
def KnownMirror.openCount (m : KnownMirror) : Nat := m.banks.toList.countP fun b => b.opened.isSome

/-- A row as a check value. -/
def rowCheck (r : RowNo) : CheckValue := r.setWidth 16

/-- A count as a check value. -/
def countCheck (n : Nat) : CheckValue := BitVec.ofNat 16 n

/-- The check value a known mirror supplies for a column command or a CLOSE of a bank (R75). -/
def KnownMirror.rowCheckOf (m : KnownMirror) (k : BankNo) : CheckValue := rowCheck ((m.openRow k).getD 0)

/-! ### Arrival values (R65) -/

/-- The kept fields at the end of the slot in which the record is reported good. -/
def arrivalValues (t : Timing) (slot : Nat) : KeptFields where
  dataFree := slot + max t.readLatency t.writeLatency + 4 + max t.turnRW t.turnWR
  lastDirection := none
  earliestOpenAny := slot + t.openSpacing
  earliestWriteAny := slot + t.writeSpacing
  commandBlockUntil := slot + max t.refreshBusy t.wakeDelay
  lastOpenOrWrite := some slot
  sleepSeen := false
  newerIssuer := none
  olderIssuer := none

/-! ### Applying an observed command (R66 to R73) -/

/-- The recent issuers move on by one slot (R66). -/
def KeptFields.moveIssuers (k : KeptFields) (o : Observed) : KeptFields :=
  { k with newerIssuer := observedIssuer o, olderIssuer := k.newerIssuer }

/-- The kept fields after an observed command, the recent issuers apart (R67 to R73). -/
def KeptFields.apply (k : KeptFields) (t : Timing) (slot : Nat) : LaneCommand → KeptFields
  | .openRow .. => { k with earliestOpenAny := slot + t.openSpacing, lastOpenOrWrite := some slot }
  | .close .. => k
  | .closeAll _ .init _ => { k with commandBlockUntil := slot + t.wakeDelay, sleepSeen := false }
  | .closeAll .. => k
  | .read _ _ _ bursts => { k with dataFree := slot + t.readLatency + bursts.toNat, lastDirection := some .read }
  | .write _ _ _ bursts =>
    { k with
      dataFree := slot + t.writeLatency + bursts.toNat, lastDirection := some .write,
      earliestWriteAny := slot + t.writeSpacing, lastOpenOrWrite := some slot }
  | .refresh .. => { k with commandBlockUntil := slot + t.refreshBusy }
  | .sleep .. => { k with sleepSeen := true }
  | .wake .. => { k with commandBlockUntil := slot + t.wakeDelay, sleepSeen := false }
  | .modeSet .. => k

/-- INITIALIZING moves to RUNNING when the ready line is sampled high (R72). -/
def KnownMirror.sampleReady (m : KnownMirror) (ready : Bool) : KnownMirror :=
  match m.channel with
  | .initializing => if ready then { m with channel := .running } else m
  | .running | .sleeping => m

/-- A bank's record after a CLOSE_ALL (R70). -/
def closedRecord (t : Timing) (slot : Nat) (b : BankRecord) : BankRecord :=
  { b with opened := none, earliestOpen := slot + t.closeDelay }

/-- A known mirror's holds and channel_state after a CLOSE_ALL of a purpose (R70, R71). -/
def KnownMirror.purposeEffect (m : KnownMirror) (quiet : Bool) : Purpose → KnownMirror
  | .init => { m with channel := .initializing, refreshHold := false, quietHold := false }
  | .refresh => { m with refreshHold := true }
  | .quiet => { m with quietHold := quiet }
  | .recover => { m with refreshHold := false, quietHold := false }

/-- A bank's record after a WRITE command of some bursts (R69). -/
def writtenRecord (t : Timing) (slot bursts : Nat) (b : BankRecord) : BankRecord :=
  match b.opened with
  | some o =>
    { b with earliestClose := max (o.slot + t.rowHold) (slot + t.writeLatency + bursts + t.writeRecovery) }
  | none => b

/-- A known mirror after an observed command, with the quiet and ready lines as sampled in its slot (R67 to R73). -/
def KnownMirror.apply (m : KnownMirror) (t : Timing) (slot : Nat) (quiet ready : Bool) (c : LaneCommand) : KnownMirror :=
  KnownMirror.sampleReady
    (match c with
    | .openRow _ bank row =>
      m.withBank bank
        { m.bank bank with
          opened := some ⟨row, slot⟩, earliestColumn := slot + t.openDelay, earliestClose := slot + t.rowHold }
    | .close _ bank => m.withBank bank { m.bank bank with opened := none, earliestOpen := slot + t.closeDelay }
    | .closeAll _ purpose _ => (m.mapBanks (closedRecord t slot)).purposeEffect quiet purpose
    | .read .. => m
    | .write _ bank _ bursts => m.withBank bank (writtenRecord t slot bursts.toNat (m.bank bank))
    | .refresh .. => { m with refreshHold := false }
    | .sleep .. => { m with channel := .sleeping, refreshHold := false, quietHold := false }
    | .wake .. =>
      { m.mapBanks (fun b => { b with opened := none, earliestOpen := min b.earliestOpen slot }) with channel := .running }
    | .modeSet .. => m)
    ready

/-! ### Synchronization (R74) -/

/-- Sixteen CLOSED banks with one earliest_open. The fields not consulted while a bank is CLOSED hold 0
(notes/assumptions/18.md). -/
def closedBanks (earliestOpen : Nat) : Vector BankRecord 16 := Vector.replicate 16 ⟨none, 0, 0, earliestOpen⟩

/-- The mirror that a sync point makes known, with the kept fields as the command leaves them (R74); none for a command
that is no sync point. -/
def syncMirror (t : Timing) (slot : Nat) (quiet ready : Bool) (kept : KeptFields) : LaneCommand → Option KnownMirror
  | .closeAll _ purpose _ =>
    some (KnownMirror.sampleReady
      { banks := closedBanks (slot + t.closeDelay)
        channel := if purpose = .init then .initializing else if kept.sleepSeen then .sleeping else .running
        refreshHold := decide (purpose = .refresh)
        quietHold := decide (purpose = .quiet) && quiet } ready)
  | .wake _ => some { banks := closedBanks slot, channel := .running, refreshHold := false, quietHold := false }
  | _ => none

/-! ### The mirror check (R75, R76) -/

/-- The comparison of an observed command's check value with the mirror before the command finds a mismatch (R76). -/
def KnownMirror.mismatch (m : KnownMirror) : LaneCommand → Bool
  | .openRow _ bank _ => (m.openRow bank).isSome
  | .close check bank => decide ((m.openRow bank).map rowCheck ≠ some check)
  | .read check bank _ _ => decide ((m.openRow bank).map rowCheck ≠ some check)
  | .write check bank _ _ => decide ((m.openRow bank).map rowCheck ≠ some check)
  | .closeAll check .refresh _ => decide (check.toNat ≠ m.openCount)
  | .closeAll check .quiet _ => decide (check.toNat ≠ m.openCount)
  | .closeAll _ .init _ => false
  | .closeAll _ .recover _ => false
  | .refresh check => decide (check.toNat ≠ m.openCount)
  | .sleep check => decide (check.toNat ≠ m.openCount)
  | .wake _ => false
  | .modeSet .. => false

/-! ### Eligibility (R79 to R86) -/

/-- No command block runs in the slot (R79). -/
def KeptFields.unblocked (k : KeptFields) (slot : Nat) : Bool := decide (k.commandBlockUntil ≤ slot)

/-- The turnaround before a column command of a direction (R79). -/
def turnaround (t : Timing) : Option Direction → Direction → Nat
  | some .write, .read => t.turnWR
  | some .read, .write => t.turnRW
  | _, _ => 0

/-- The latency of a direction, from the start record. -/
def Timing.latency (t : Timing) : Direction → Nat
  | .read => t.readLatency
  | .write => t.writeLatency

/-- The data-line test (R79). -/
def KeptFields.dataLinesFree (k : KeptFields) (t : Timing) (slot : Nat) (d : Direction) : Bool :=
  decide (k.dataFree + turnaround t k.lastDirection d ≤ slot + t.latency d)

/-- Two runs of columns share one. -/
def columnsMeet (c1 b1 c2 b2 : Nat) : Bool := decide (c1 < c2 + b2) && decide (c2 < c1 + b1) && decide (0 < b1) && decide (0 < b2)

/-- The write fence test of a column command of a bank, for other commands than the fence's own retry (R83). -/
def fenceTest (fence : Option WriteFence) (openRow : Option RowNo) (bank : BankNo) (column : ColumnNo)
    (bursts : BurstCount) : Bool :=
  match fence with
  | none => true
  | some f =>
    !(decide (f.bank = bank) && decide (openRow.map rowCheck = some f.row) &&
      columnsMeet column.toNat bursts.toNat f.column.toNat f.bursts.toNat)

/-- The channel is in service. -/
def KnownMirror.running (m : KnownMirror) : Bool := decide (m.channel = .running)

/-- A column command is eligible, the WRITE spacing apart (R82). -/
def columnEligible (t : Timing) (slot : Nat) (k : KeptFields) (m : KnownMirror) (fence : Option WriteFence) (retry : Bool)
    (d : Direction) (bank : BankNo) (column : ColumnNo) (bursts : BurstCount) : Bool :=
  m.running && (m.bank bank).opened.isSome && decide ((m.bank bank).earliestColumn ≤ slot) && k.dataLinesFree t slot d &&
    (retry || fenceTest fence (m.openRow bank) bank column bursts)

/-- Every open bank may be closed (R84). -/
def KnownMirror.closable (m : KnownMirror) (slot : Nat) : Bool :=
  m.banks.toList.all fun b => b.opened.isNone || decide (b.earliestClose ≤ slot)

/-- Every bank is CLOSED and holds back neither REFRESH nor SLEEP (R84). -/
def KnownMirror.settled (m : KnownMirror) (slot : Nat) : Bool :=
  m.banks.toList.all fun b => b.opened.isNone && decide (b.earliestOpen ≤ slot)

/-- A command of a station whose mirror is known is eligible in a slot (R79 to R85). `retry` says that the command is the
retry of the fenced write (R83). -/
def eligible (t : Timing) (slot : Nat) (k : KeptFields) (m : KnownMirror) (fence : Option WriteFence) (retry : Bool)
    (c : LaneCommand) : Bool :=
  k.unblocked slot &&
    match c with
    | .openRow _ bank _ =>
      m.running && (m.bank bank).opened.isNone && decide ((m.bank bank).earliestOpen ≤ slot) &&
        decide (k.earliestOpenAny ≤ slot) && !m.refreshHold && !m.quietHold
    | .close _ bank => m.running && (m.bank bank).opened.isSome && decide ((m.bank bank).earliestClose ≤ slot)
    | .read _ bank column bursts => columnEligible t slot k m fence retry .read bank column bursts
    | .write _ bank column bursts =>
      columnEligible t slot k m fence retry .write bank column bursts && decide (k.earliestWriteAny ≤ slot)
    | .closeAll _ .refresh _ => m.running && m.closable slot && !m.refreshHold
    | .closeAll _ .quiet _ => m.running && m.closable slot && !m.refreshHold && !m.quietHold
    | .closeAll _ .init _ => true
    | .closeAll _ .recover _ => false
    | .refresh _ => decide (m.channel ≠ .sleeping) && m.settled slot && decide (k.dataFree ≤ slot)
    | .sleep _ => m.running && m.settled slot && decide (k.dataFree ≤ slot) && !m.refreshHold
    | .wake _ => decide (m.channel = .sleeping)
    | .modeSet .. => true

/-- The recovery condition, which is the eligibility of CLOSE_ALL(RECOVER) (R86). -/
def KeptFields.recoverable (k : KeptFields) (hold slot : Nat) : Bool :=
  k.unblocked slot &&
    match k.lastOpenOrWrite with
    | none => true
    | some l => decide (l + hold ≤ slot)

end Sys2Proof.Machine
end

