-- ==== Sys2Proof/Machine/Queue.lean ====
section
/-! DEFINITION. The Request Queue (chapter 5) and the Reservation Table (chapter 9): the hazards among entries, the
admission checks, an entry's response, and the setting and loss of reservations. -/

namespace Sys2Proof.Machine

/-! ### Kinds and ranges -/

/-- A write kind (R101). -/
def MemKind.isWrite : MemKind → Bool
  | .write => true
  | .exclWrite => true
  | .read => false
  | .exclRead => false

/-- An exclusive kind. -/
def MemKind.isExclusive : MemKind → Bool
  | .exclRead => true
  | .exclWrite => true
  | .read => false
  | .write => false

/-- The entry is issued: its column command is on the lane. -/
def Phase.issued : Phase → Bool
  | .readIssued => true
  | .writeIssued => true
  | .waiting => false
  | .retryWait => false
  | .done _ => false

/-- The entry may be offered: it waits for a column command. -/
def Phase.owing : Phase → Bool
  | .waiting => true
  | .retryWait => true
  | .readIssued => false
  | .writeIssued => false
  | .done _ => false

/-- The entry is answered (section 5.3). -/
def Phase.answered : Phase → Option EntryOutcome
  | .done o => some o
  | .waiting => none
  | .readIssued => none
  | .writeIssued => none
  | .retryWait => none

/-- Two entries of memory kinds overlap (R101). -/
def overlaps (a b : MemFields) : Bool :=
  decide (a.bank = b.bank) && decide (a.row = b.row) &&
    columnsMeet a.column.toNat a.bursts.toNat b.column.toNat b.bursts.toNat

/-- An older entry blocks an entry: a FENCE blocks every younger one (R103), and an overlapping entry does when one of the
two is of a write kind (R101). -/
def blocks (older : Entry) (m : MemFields) : Bool :=
  match older.mem with
  | none => true
  | some a => overlaps a m && (a.kind.isWrite || m.kind.isWrite)

/-- The entry's column command with a check value (R88). -/
def MemFields.columnCommand (m : MemFields) (check : CheckValue) : LaneCommand :=
  if m.kind.isWrite then .write check m.bank m.column m.bursts else .read check m.bank m.column m.bursts

/-- The next command of an entry, by the mirror's record of its bank, with the check value the mirror supplies (R75,
R112). -/
def MemFields.nextCommand (m : MemFields) (mirror : KnownMirror) : LaneCommand :=
  match mirror.openRow m.bank with
  | none => .openRow Config.closedToken m.bank m.row
  | some row => if row = m.row then m.columnCommand (rowCheck row) else .close (rowCheck row) m.bank

/-- The next command is the entry's column command. -/
def isColumn : LaneCommand → Bool
  | .read .. => true
  | .write .. => true
  | _ => false

/-! ### The Reservation Table (R162 to R170) -/

/-- A thread's reservation covers a granule (R168). -/
def ReservationTable.covers (t : ReservationTable) (m : MemFields) : Bool :=
  t.reservations.any fun r =>
    decide (r.thread = m.thread) && decide (r.bank = m.bank) && decide (r.row = m.row) && decide (r.column = m.column)

/-- The table with a thread's reservation removed. -/
def ReservationTable.drop (t : ReservationTable) (thread : Thread) : ReservationTable :=
  { t with reservations := t.reservations.filter fun r => decide (r.thread ≠ thread) }

/-- The table emptied (R170); the last write record stays. -/
def ReservationTable.emptied (t : ReservationTable) : ReservationTable := { t with reservations := [] }

/-- The last write record names a write to the granule whose data ends after a slot: the pending-write exception (R164). -/
def ReservationTable.pendingWrite (t : ReservationTable) (m : MemFields) (slot : Nat) : Bool :=
  match t.lastWrite with
  | none => false
  | some w =>
    decide (w.bank = m.bank) && decide (w.row = rowCheck m.row) && decide (w.firstColumn ≤ m.column.toNat) &&
      decide (m.column.toNat ≤ w.lastColumn) && decide (slot < w.lastDataSlot)

/-- The smallest set_order among reservations. -/
def oldestOrder : List Reservation → Option Nat
  | [] => none
  | r :: rest =>
    match oldestOrder rest with
    | none => some r.setOrder
    | some n => some (min r.setOrder n)

/-- The reservations with the first one of a set_order removed. -/
def evict (order : Nat) : List Reservation → List Reservation
  | [] => []
  | r :: rest => if r.setOrder = order then rest else r :: evict order rest

/-- Room for one more reservation, by evicting the oldest of a full table (R164). -/
def makeRoom (rs : List Reservation) : List Reservation :=
  if rs.length < Config.tableSize then rs
  else match oldestOrder rs with
    | none => rs
    | some n => evict n rs

/-- Setting a reservation at the issue of an EXCL_READ's READ command in a slot (R164). -/
def ReservationTable.setFor (t : ReservationTable) (m : MemFields) (slot : Nat) : ReservationTable :=
  let rest := (t.drop m.thread).reservations
  if t.pendingWrite m slot then { t with reservations := rest }
  else { t with reservations := makeRoom rest ++ [⟨m.thread, m.bank, m.row, m.column, slot⟩] }

/-- An EXCL_READ is answered DATA_ERROR: the thread's reservation goes if the entry's last READ command set it (R165). -/
def ReservationTable.failRead (t : ReservationTable) (m : MemFields) : ReservationTable :=
  { t with
    reservations := t.reservations.filter fun r => !(decide (r.thread = m.thread) && decide (some r.setOrder = m.issueSlot)) }

/-- A WRITE command to columns of a bank covers a reservation: by the mirror's row, or by the check value carried
(R166). -/
def coversReservation (openRow : Option RowNo) (check : CheckValue) (bank : BankNo) (column : ColumnNo)
    (bursts : BurstCount) (r : Reservation) : Bool :=
  decide (r.bank = bank) && decide (column.toNat ≤ r.column.toNat) && decide (r.column.toNat < column.toNat + bursts.toNat) &&
    (decide (openRow = some r.row) || decide (rowCheck r.row = check))

/-- The table after an observed WRITE command, with the row the mirror held open before it (R163, R166). A word of 0 bursts at
column 0 gives no last column; the record then names column 0: DESIGN CHOICE (notes/assumptions/41.md). -/
def ReservationTable.observeWrite (t : ReservationTable) (writeLatency slot : Nat) (openRow : Option RowNo)
    (check : CheckValue) (bank : BankNo) (column : ColumnNo) (bursts : BurstCount) : ReservationTable where
  reservations := t.reservations.filter fun r => !coversReservation openRow check bank column bursts r
  lastWrite :=
    some
      { bank := bank
        row := (openRow.map rowCheck).getD check
        firstColumn := column.toNat
        lastColumn := column.toNat + bursts.toNat - 1
        lastDataSlot := slot + writeLatency + bursts.toNat - 1 }

/-! ### Admission (R90, R91) -/

/-- The state check: why a station refuses memory requests, none when they go on to the later checks (R41). In
the last slot of LOADING the state is the one that the record, once judged, has left: DESIGN CHOICE (notes/assumptions/49.md). -/
def stateRefusal : StationState → Option RefusalReason
  | .off => some .starting
  | .loading => some .starting
  | .listening => none
  | .initializing => none
  | .member => none
  | .resync => none
  | .leaving => some .notMember
  | .draining => some .notMember
  | .detached => some .notMember
  | .withdrawn => some .notMember

/-- An entry carries the tag (R90). -/
def tagInUse (q : List Entry) (tag : Tag) : Bool := q.any fun e => decide (e.tag = tag)

/-- The checks that apply to every kind: state, tag, full (R90). -/
def commonRefusal (state : StationState) (q : List Entry) (tag : Tag) : Option RefusalReason :=
  match stateRefusal state with
  | some r => some r
  | none =>
    if tagInUse q tag then some .tagInUse
    else if Config.queueSize ≤ q.length then some .full
    else none

/-- The range check fails (R90). -/
def rangeFails (kind : MemKind) (bursts : BurstCount) (address : Address) : Bool :=
  decide (bursts.toNat < 1) || decide (4 < bursts.toNat) || decide (32 < (addressColumn address).toNat + bursts.toNat) ||
    (kind.isExclusive && decide (bursts.toNat ≠ 1))

/-- Some used window covers the whole range with the rights the kind needs (R35). -/
def accessOk (windows : List Window) (kind : MemKind) (bursts : BurstCount) (address : Address) : Bool :=
  windows.any fun w => w.admits kind (addressGranule address) (addressGranule address + bursts.toNat - 1)

/-- The checks that apply to all kinds but FENCE: align, range, access (R90). -/
def addressRefusal (windows : List Window) (kind : MemKind) (bursts : BurstCount) (address : Address) :
    Option RefusalReason :=
  if addressOffset address ≠ 0 then some .align
  else if rangeFails kind bursts address then some .range
  else if accessOk windows kind bursts address then none
  else some .access

/-- The class an entry takes at admission (R115). -/
def admissionClass (permit : Bool) (kind : MemKind) (urgent : Bool) : EntryClass :=
  if permit && urgent && !kind.isExclusive then .priority else .ordinary

/-- The entry of an accepted memory request (R91). -/
def newEntry (s : State) (kind : MemKind) (tag : Tag) (thread : Thread) (bursts : BurstCount) (urgent : Bool)
    (address : Address) (words : List PortWord) : Entry where
  tag := tag
  phase := .waiting
  mem :=
    some
      { kind := kind
        thread := thread
        bank := addressBank address
        row := addressRow address
        column := addressColumn address
        bursts := bursts
        writeData := writeBursts words
        captured := []
        captureFailed := false
        cls := admissionClass s.settings.priorityPermit kind urgent
        age := 0
        guardCount := 0
        retryUsed := false
        issueSlot := none
        retrySlot := none
        judged := none }
  joined := s.slot
  order := s.port.admitted

/-- The entry of an accepted FENCE (R88, R91). -/
def fenceEntry (s : State) (tag : Tag) : Entry where
  tag := tag
  phase := .waiting
  mem := none
  joined := s.slot
  order := s.port.admitted

/-! ### Responses (R105, R188, R196) -/

/-- A FENCE's kind code. -/
def fenceCode : BitVec 4 := 4

/-- The response of an entry that retires with an outcome (R105). Read data goes with OK alone. -/
def entryResponse (e : Entry) (o : EntryOutcome) : Response :=
  match e.mem with
  | none => { kind := .retired o, requestKind := fenceCode, tag := e.tag, thread := 0, data := [] }
  | some m =>
    { kind := .retired o
      requestKind := memKindCode m.kind
      tag := e.tag
      thread := m.thread
      data :=
        match o with
        | .ok => if m.kind.isWrite then [] else m.captured.flatMap Vector.toList
        | .exokay | .exfail | .dataError | .aborted => [] }

/-- A retired entry's response joins those made in the slot, before any of an entry younger than it (R188). -/
def joinRetired (order : Nat) (r : Response) : List Joining → List Joining
  | [] => [.retired order r]
  | .retired o x :: rest =>
    if order < o then .retired order r :: .retired o x :: rest else .retired o x :: joinRetired order r rest
  | .made x :: rest => .made x :: joinRetired order r rest
  | .report t :: rest => .report t :: joinRetired order r rest

end Sys2Proof.Machine
end

