-- ==== Sys2Proof/Machine/Refresh.lean ====
section
/-! DEFINITION. The Refresh and Quiet Controller (chapter 8): the roster arithmetic, the refresh account, the duty pointer,
the quiet vote, and the offers of each slot. -/

namespace Sys2Proof.Machine

/-! ### The roster (R40, R148) -/

/-- The eight station numbers, from 0 up. -/
def stationNumbers : List StationNo := [0, 1, 2, 3, 4, 5, 6, 7]

/-- A station number is in the roster. -/
def inRoster (roster : StationSet) (n : StationNo) : Bool := roster.getLsbD n.toNat

/-- The lowest present station, none of an empty roster (R40). -/
def lowestPresent (roster : StationSet) : Option StationNo := stationNumbers.find? (inRoster roster)

/-- The next roster number after a station (R148), none of an empty roster (notes/assumptions/48.md). -/
def nextInRoster (roster : StationSet) (n : StationNo) : Option StationNo :=
  match stationNumbers.find? fun k => decide (n < k) && inRoster roster k with
  | some k => some k
  | none => lowestPresent roster

/-- One station's bit. -/
def stationBit (n : StationNo) : StationSet := 1#8 <<< n.toNat

/-! ### The account (R145 to R147) -/

/-- A period expiry: debt rises, or the overrun is recorded (R146). -/
def expirePeriod (s : State) : State :=
  let s' := s.withWork { s.work with periodSettled := true }
  if s.controller.debt < Config.maxDebt then
    s'.withController { s.controller with periodCount := 0, debt := s.controller.debt + 1 }
  else
    recordFault .refreshOverrun (optionalDetail s.controller.duty) (s'.withController { s.controller with periodCount := 0 })

/-- The slot in hand would bring the period count to REFRESH_PERIOD (R146). -/
def periodDue (s : State) : Bool :=
  s.controller.active && s.controller.counting && !s.work.periodSettled &&
    decide (s.timing.refreshPeriod ≤ s.controller.periodCount + 1)

/-- The end of a slot at the period timer (R146). The slot is then counted, and no later event of it finds an expiry due. -/
def countPeriod (s : State) : State :=
  if periodDue s then expirePeriod s
  else if s.controller.active && s.controller.counting && !s.work.periodSettled then
    (s.withController { s.controller with periodCount := s.controller.periodCount + 1 }).withWork
      { s.work with periodSettled := true }
  else s

/-- The period timer of an account that starts counts, unless the channel state reads SLEEPING (R145). -/
def timerRuns (s : State) : Bool :=
  match s.mirror.known with
  | some m => decide (m.channel ≠ .sleeping)
  | none => true

/-- The account becomes active at the entry to MEMBER from LISTENING or INITIALIZING (R145); the idle count restarts
(R155). A WAKE that the same slot takes after it finds the account active: DESIGN CHOICE (notes/assumptions/47.md). -/
def startAccount (s : State) : State :=
  (s.withController
    { s.controller with
      active := true
      debt := 0
      periodCount := 0
      counting := timerRuns s
      idleCount := 0 }).withWork { s.work with periodSettled := true, accountStarted := true, idleSettled := true }

/-- The end of the slot in which an account has started: its timer counts by the channel state that the slot leaves (R145). A
SLEEP of the slot whose mirror is then doubted leaves it counting: DESIGN CHOICE (notes/assumptions/47.md). -/
def settleAccount (s : State) : State :=
  if s.work.accountStarted && s.controller.active then
    s.withController { s.controller with counting := timerRuns s }
  else s

/-- The account becomes inactive, after a period expiry that is due in the slot (R145). -/
def stopAccount (s : State) : State :=
  let s := if periodDue s then expirePeriod s else s
  s.withController { s.controller with active := false, debt := 0, counting := false, periodCount := 0 }

/-- What an observed command does to an active account (R147), one that started earlier in the slot included: DESIGN CHOICE
(notes/assumptions/47.md). -/
def accountCommand (c : LaneCommand) (s : State) : State :=
  if s.controller.active then
    match c with
    | .refresh _ => s.withController { s.controller with debt := s.controller.debt - 1 }
    | .sleep _ =>
      (s.withController { s.controller with debt := 0, counting := false, periodCount := 0 }).withWork
        { s.work with periodSettled := true }
    | .wake _ =>
      (s.withController { s.controller with debt := 1, counting := true, periodCount := 0 }).withWork
        { s.work with periodSettled := true }
    | _ => s
  else s

/-! ### The duty pointer (R148, R149) -/

/-- The states in which the duty pointer is maintained (R148). -/
def keepsDuty : StationState → Bool
  | .listening => true
  | .initializing => true
  | .member => true
  | .resync => true
  | .leaving => true
  | .draining => true
  | .off => false
  | .loading => false
  | .detached => false
  | .withdrawn => false

/-- The issuer of the REFRESH observed in the slot in hand, if one was. -/
def observedRefresh (s : State) : Option StationNo :=
  match s.work.observed with
  | some (.command i (.refresh _)) => some i
  | _ => none

/-- The state with another duty pointer. -/
def setDuty (d : Option StationNo) (s : State) : State := s.withController { s.controller with duty := d }

/-- A REFRESH observed in the slot puts the pointer on the next roster number after its issuer, in the roster that the
slot's samples leave (R148). In the slot of an entry to LISTENING with the presence line released, those samples do not hold
the station's own number, and it is not added: DESIGN CHOICE (notes/assumptions/48.md). -/
def followRefresh (s : State) : State :=
  match observedRefresh s with
  | some i => if keepsDuty s.membership.state then setDuty (nextInRoster s.membership.roster i) s else s
  | none => s

/-! ### The quiet vote (R155, R156) -/

/-- The vote as the three conditions give it (R156). -/
def voteStands (s : State) : Bool :=
  decide (s.membership.state = .member) && decide (s.controller.permission = some true) && s.queue.isEmpty &&
    decide (s.settings.idleWait ≤ s.controller.idleCount)

/-- The vote cast or withdrawn as the conditions give it (R156). -/
def recastVote (s : State) : State := s.withController { s.controller with vote := voteStands s }

/-- The vote withdrawn (R156). -/
def withdrawVote (s : State) : State := s.withController { s.controller with vote := false }

/-- The idle count rises in the slot in hand (R155). -/
def idleRises (s : State) : Bool :=
  decide (s.membership.state = .member) && s.queue.isEmpty && !s.work.idleSettled

/-- The end of a slot at the idle count (R155). -/
def countIdle (s : State) : State :=
  if idleRises s then
    (s.withController { s.controller with idleCount := saturatingSucc s.controller.idleCount }).withWork
      { s.work with idleSettled := true }
  else s

/-! ### Offers (R150 to R153, R158 to R160) -/

/-- A possible offer of a slot. -/
structure Offer where
  wanted : Bool
  command : LaneCommand
  cls : ClaimClass
  score : Nat
deriving DecidableEq, Repr

/-- The six offers in their rank, from a known mirror (R150). -/
def offers (s : State) (m : KnownMirror) : List Offer :=
  let member := decide (s.membership.state = .member)
  let duty := member && decide (s.controller.duty = some s.number)
  let openBanks := countCheck m.openCount
  let digest := s.settings.digest
  let quiet := s.lines.quietSample
  [ ⟨member && decide (m.channel = .sleeping) && (!s.queue.isEmpty || !quiet), .wake digest, .maintenance, 61⟩,
    ⟨m.refreshHold, .refresh openBanks, .maintenance, 60⟩,
    ⟨member && decide (Config.urgentDebt ≤ s.controller.debt) && !m.refreshHold, .closeAll openBanks .refresh digest,
      .maintenance, 60⟩,
    ⟨duty && decide (1 ≤ s.controller.debt) && !m.refreshHold, .closeAll openBanks .refresh digest, .idle, 10⟩,
    ⟨duty && quiet && decide (m.channel = .running) && !m.quietHold, .closeAll openBanks .quiet digest, .idle, 5⟩,
    ⟨duty && quiet && m.quietHold, .sleep openBanks, .idle, 5⟩ ]

/-- The controller's candidate: the highest-ranked offer both wanted and eligible (R150). -/
def controllerCandidate (s : State) (k : KeptFields) (m : KnownMirror) : Option Candidate :=
  ((offers s m).find? fun o => o.wanted && eligible s.timing s.slot k m s.mirror.fence false o.command).map
    fun o => { source := .controller, command := o.command, cls := o.cls, score := o.score }

end Sys2Proof.Machine
end

