-- ==== Sys2Proof/Machine/Ops.lean ====
section
/-! DEFINITION. The operations that several steps share: answering and retiring entries, the write fence, and every change
of station state (chapter 3) with what it does to the other blocks. -/

namespace Sys2Proof.Machine

/-- The slot's end has begun: its claim phase and its command phase are over (notes/assumptions/3.md). The two marks say whether the
read-back and the claim phase were taken as the model fixes them (notes/assumptions/4.md, 45.md). -/
def markEnded (presumed claimPresumed : Bool) (s : State) : State :=
  s.withWork { s.work with ended := true, presumed := presumed, claimPresumed := claimPresumed }

/-! ### Entries -/

/-- The entry that carries a tag. -/
def findEntry (tag : Tag) (s : State) : Option Entry := s.queue.find? fun e => decide (e.tag = tag)

/-- The queue with the entry of a tag changed. -/
def changeEntry (tag : Tag) (f : Entry → Entry) (s : State) : State :=
  s.withQueue (s.queue.map fun e => if e.tag = tag then f e else e)

/-- An entry in DONE with an outcome (section 5.3). -/
def Entry.answer (e : Entry) (o : EntryOutcome) : Entry := { e with phase := .done o }

/-- The entry of a tag goes to DONE with an outcome. -/
def answerEntry (tag : Tag) (o : EntryOutcome) (s : State) : State := changeEntry tag (fun e => e.answer o) s

/-- A change of the fields of a memory kind; a FENCE has none (R88). -/
def Entry.changeMem (e : Entry) (f : MemFields → MemFields) : Entry := { e with mem := e.mem.map f }

/-- The outcome an entry retires with: the one it is answered with (R100), or OK for a FENCE that no older entry is left
in front of (R103). A FENCE admitted in the slot in hand waits for the slot's end (notes/assumptions/6.md). -/
def retiresWith (slot : Nat) (closing olderRemains : Bool) (e : Entry) : Option EntryOutcome :=
  match e.phase.answered with
  | some o => some o
  | none =>
    if e.mem.isNone && !olderRemains && (closing || decide (e.joined < slot)) then some .ok else none

/-- The entries that stay and the entries that retire, each in queue order. -/
def retireWalk (slot : Nat) (closing : Bool) : Bool → List Entry → List Entry × List (Entry × EntryOutcome)
  | _, [] => ([], [])
  | olderRemains, e :: rest =>
    match retiresWith slot closing olderRemains e with
    | some o => ((retireWalk slot closing olderRemains rest).1, (e, o) :: (retireWalk slot closing olderRemains rest).2)
    | none => (e :: (retireWalk slot closing true rest).1, (retireWalk slot closing true rest).2)

/-- The responses of retired entries join those made in the slot (R100, R188). -/
def joinAll (gone : List (Entry × EntryOutcome)) (js : List Joining) : List Joining :=
  gone.foldl (fun js p => joinRetired p.1.order (entryResponse p.1 p.2) js) js

/-- A MEMBER's queue that has become empty restarts the idle count (R109, R155). -/
def restartIdle (s : State) : State :=
  if decide (s.membership.state = .member) && s.queue.isEmpty then
    (s.withController { s.controller with idleCount := 0 }).withWork { s.work with idleSettled := true }
  else s

/-- The entries answered retire, each with its response and its count (R87, R100, R103, R193). -/
def retireDone (closing : Bool) (s : State) : State :=
  let walk := retireWalk s.slot closing false s.queue
  if walk.2.isEmpty then s
  else
    restartIdle
      (((s.withQueue walk.1).withPort { s.port with joining := joinAll walk.2 s.port.joining }).withCounters
        { s.counters with requestsCompleted := s.counters.requestsCompleted + BitVec.ofNat 32 walk.2.length })

/-! ### The write fence (R180 to R185) -/

/-- The fence removed, and the fenced entry with it (R185). -/
def dropFence (s : State) : State :=
  (s.withMirror { s.mirror with fence := none }).withDataUnit { s.dataUnit with fencedEntry := none }

/-- The fence cleared when this station is its issuer (R181). -/
def clearOwnFence (s : State) : State :=
  match s.mirror.fence with
  | some f => if f.issuer = s.number then dropFence s else s
  | none => s

/-- The fence that the entry of a tag waits to repair is cleared, and the fenced entry becomes absent (R181). -/
def clearFenceOf (tag : Tag) (s : State) : State :=
  if s.dataUnit.fencedEntry = some tag then
    let s := clearOwnFence s
    s.withDataUnit { s.dataUnit with fencedEntry := none }
  else s

/-- A write is answered DATA_ERROR, which is recorded (R181). -/
def failWrite (tag : Tag) (s : State) : State :=
  recordFault .writeDataError (tagDetail tag) (answerEntry tag .dataError s)

/-- The fenced entry, while it still waits for its retry, goes to DONE with DATA_ERROR (R180, R184). -/
def failFencedEntry (s : State) : State :=
  match s.dataUnit.fencedEntry with
  | none => s
  | some tag =>
    match findEntry tag s with
    | none => s
    | some e => if e.phase = .retryWait then failWrite tag s else s

/-- The states in which the station holds a write fence (R83, R180). -/
def holdsFence : StationState → Bool
  | .member => true
  | .resync => true
  | .leaving => true
  | .off => false
  | .loading => false
  | .listening => false
  | .initializing => false
  | .draining => false
  | .detached => false
  | .withdrawn => false

/-- The fence that an alert attributed in the slot in hand sets (R180). -/
def fenceOf (s : State) (a : Attribution) : WriteFence where
  issuer := a.issuer
  bank := a.bank
  row := a.row
  column := a.column
  bursts := a.bursts
  limit := s.slot + 4 * s.timing.alertWindow
  final := a.retried

/-- The last alerted write becomes absent at the start of its limit slot (R172). -/
def expireAlerted (s : State) : State :=
  match s.dataUnit.lastAlerted with
  | none => s
  | some w => if w.limit ≤ s.slot then s.withDataUnit { s.dataUnit with lastAlerted := none } else s

/-- The start of a slot at the fence: one whose limit slot is reached is removed, with its record, and the fenced entry
goes to DONE with DATA_ERROR (R184). A second call in one slot finds nothing to do. At its issuer a final fence records
WRITE_DATA_ERROR for an entry in RETRY_WAIT like any other: DESIGN CHOICE (notes/assumptions/54.md). -/
def expireFence (s : State) : State :=
  let s := expireAlerted s
  match s.mirror.fence with
  | none => s
  | some f =>
    if f.limit ≤ s.slot then
      let s := if f.issuer = s.number then failFencedEntry s
        else if f.final then s
        else recordFault .orphanWrite (stationDetail f.issuer) s
      dropFence s
    else s

/-! ### Changes of station state (chapter 3) -/

/-- The mirror doubted; the kept fields and the fence stay (R65). -/
def doubtMirror (s : State) : State := s.withMirror { s.mirror with known := none }

/-- The Reservation Table emptied (R170). -/
def emptyTable (s : State) : State := s.withTable s.table.emptied

/-- The station in another state. -/
def setState (st : StationState) (s : State) : State := s.withMembership { s.membership with state := st }

/-- The channel left behind: at entry to LISTENING, DETACHED and WITHDRAWN (R43, R55, R62, R145, R170, R185). -/
def leaveChannel (st : StationState) (s : State) : State :=
  let s := stopAccount s
  let s := withdrawVote (setDuty none s)
  let s := dropFence (doubtMirror (emptyTable s))
  s.withMembership
    { s.membership with state := st, initStep := none, drainTarget := none, leaveDoubt := false }

/-- Entry to LISTENING (R43). A REFRESH of the same slot is taken after the entry (R148). -/
def enterListening (s : State) : State :=
  let s := leaveChannel .listening s
  let s := s.withMembership { s.membership with silence := 0 }
  followRefresh (s.withWork { s.work with silenceSettled := true })

/-- Entry to WITHDRAWN (R62). -/
def enterWithdrawn (s : State) : State := leaveChannel .withdrawn s

/-- Entry to DETACHED (R55). -/
def enterDetached (s : State) : State := leaveChannel .detached s

/-- Entry to INITIALIZING (R47, R83). -/
def enterInitializing (s : State) : State :=
  let s := dropFence (doubtMirror s)
  s.withMembership { s.membership with state := .initializing, initStep := some .setReadLatency }

/-- The station becomes MEMBER from LISTENING or INITIALIZING (R44, R49, R145, R155). -/
def enterMember (s : State) : State :=
  startAccount (s.withMembership { s.membership with state := .member, initStep := none })

/-- The station becomes MEMBER again from RESYNC (R52, R155). -/
def returnMember (s : State) : State :=
  ((setState .member s).withController { s.controller with idleCount := 0 }).withWork { s.work with idleSettled := true }

/-- A write that waits for its retry. -/
def Entry.isWriteRetry (e : Entry) : Bool :=
  match e.mem with
  | none => false
  | some m => decide (e.phase = .retryWait) && m.kind.isWrite

/-- A failed check of the slot in hand has sent the entry to RETRY_WAIT (R96). -/
def Entry.retriedIn (e : Entry) (slot : Nat) : Bool :=
  match e.mem with
  | none => false
  | some m => decide (e.phase = .retryWait) && decide (m.retrySlot = some slot)

/-- A read counted as retried in the slot in hand is not, since the slot leaves a draining station (R96, R174). -/
def uncountReadRetry (s : State) : State :=
  s.withCounters { s.counters with readRetries := s.counters.readRetries - 1 }

/-- A write in RETRY_WAIT at entry to RESYNC or at the setting of the leave-doubt condition is answered DATA_ERROR (R98,
R181). -/
def loseWriteRetry (e : Entry) (s : State) : State := clearFenceOf e.tag (failWrite e.tag s)

/-- All writes in RETRY_WAIT are answered so. -/
def loseWriteRetries (s : State) : State := (s.queue.filter Entry.isWriteRetry).foldl (fun s e => loseWriteRetry e s) s

/-- What entry to RESYNC and the leave-doubt condition have in common: the mirror doubted, the table emptied, resyncs
raised once a slot, the vote withdrawn, write retries answered (R51, R54, R98, R161, R193). -/
def loseTrust (s : State) : State :=
  let counted :=
    if s.work.doubted.isSome then s else s.withCounters { s.counters with resyncs := s.counters.resyncs + 1 }
  let s := counted.withWork { counted.work with doubted := counted.work.doubted.orElse fun _ => counted.mirror.known }
  retireDone false (loseWriteRetries (withdrawVote (emptyTable (doubtMirror s))))

/-- Entry to RESYNC (R51). -/
def enterResync (s : State) : State := loseTrust (setState .resync s)

/-- The leave-doubt condition set (R54). -/
def setLeaveDoubt (s : State) : State := loseTrust (s.withMembership { s.membership with leaveDoubt := true })

/-- A mirror fault, a COMMAND_ERROR alert or a MODE_SET at the station state: R51 for a MEMBER, R54 for LEAVING, R45 for
LISTENING. Any other state stays as it is. -/
def takeDoubt (s : State) : State :=
  match s.membership.state with
  | .member => enterResync s
  | .leaving => if s.membership.leaveDoubt then s else setLeaveDoubt s
  | .listening => doubtMirror s
  | .off => s
  | .loading => s
  | .initializing => s
  | .resync => s
  | .draining => s
  | .detached => s
  | .withdrawn => s

/-- The station records the faults of its mirror check and its COMMAND_ERROR alerts: as MEMBER, as LEAVING without the
leave-doubt condition, and in the slot in which it has entered RESYNC or set that condition (R51, R52, R54). -/
def recordsDoubt (s : State) : Bool :=
  match s.membership.state with
  | .member => true
  | .leaving => !s.membership.leaveDoubt || s.work.doubted.isSome
  | .resync => s.work.doubted.isSome
  | .off => false
  | .loading => false
  | .listening => false
  | .initializing => false
  | .draining => false
  | .detached => false
  | .withdrawn => false

/-- An unissued entry at entry to DRAINING is answered ABORTED (R56); a READ sent to RETRY_WAIT by a failed check of this very
slot is answered DATA_ERROR, and the retry counted for it is not (R96, notes/assumptions/16.md). -/
def drainEntry (e : Entry) (s : State) : State :=
  if e.retriedIn s.slot && !e.isWriteRetry then
    uncountReadRetry (recordFault .readDataError (tagDetail e.tag) (answerEntry e.tag .dataError s))
  else answerEntry e.tag .aborted s

/-- Every entry in WAITING or RETRY_WAIT is answered so. -/
def drainEntries (s : State) : State :=
  (s.queue.filter fun e => e.phase.owing).foldl (fun s e => drainEntry e s) s

/-- Entry to DRAINING with a target (R56). -/
def enterDraining (target : DrainTarget) (s : State) : State :=
  let s := withdrawVote (dropFence (doubtMirror (emptyTable (drainEntries s))))
  retireDone false
    (s.withMembership
      { s.membership with state := .draining, initStep := none, drainTarget := some target, leaveDoubt := false })

/-- A fault that withdraws the station by a drain: a new drain, or the target of one that runs (R59); a station in WITHDRAWN stays
there (R61). R61 names no outcome for a CLAIM_FAULT that comes late to a station that its slot has left DETACHED or LISTENING: it
drains like the others, DESIGN CHOICE (notes/assumptions/45.md). -/
def withdrawByDrain (s : State) : State :=
  match s.membership.state with
  | .draining => s.withMembership { s.membership with drainTarget := some .withdrawn }
  | .withdrawn => s
  | _ => enterDraining .withdrawn s

/-! ### Arrival, the duplicate-number check and the end of a drain -/

/-- The duplicate-number check, and the state it leads to (R39). The level is the station's own bit of the roster. A JOIN in the
very slot of the DETACH finds there the station's own drive of that slot, and withdraws it: DESIGN CHOICE
(notes/assumptions/20.md). -/
def checkNumber (s : State) : State :=
  if inRoster s.membership.roster s.number then
    enterWithdrawn (recordFault .duplicateNumber (stationDetail s.number) s)
  else enterListening s

/-- The QUIET_PERMIT initial value (R33): the loaded configuration's, and where none is loaded that of the held record's word,
1 for yes (notes/assumptions/15.md). -/
def initialPermission (l : Loader) : Option Bool :=
  match l.settings with
  | some c => some c.quietPermit
  | none => l.record.map fun r => decide (recordField r 21 = 1)

/-- The current quiet permission takes the QUIET_PERMIT initial value (R33, R36, R59). -/
def resetPermission (s : State) : State :=
  match initialPermission s.loader with
  | none => s
  | some v => s.withController { s.controller with permission := some v }

/-- A record found bad withdraws the station (R32, R59). -/
def badRecord (detail : Nat) (s : State) : State :=
  enterWithdrawn (recordFault .badStartRecord (BitVec.ofNat 8 detail) s)

/-- The held record judged again at the end of a restart drain (R36, R59). The presence line is read as the station drives it in the
slot in hand. A RESTART in the very slot that entered DETACHED or WITHDRAWN finds it still high, and goes to LISTENING without
the duplicate-number check: DESIGN CHOICE (notes/assumptions/20.md). -/
def recheckRecord (s : State) : State :=
  let s := resetPermission s
  match s.loader.record with
  | none => badRecord 0 s
  | some r =>
    match judgeRecord r with
    | some detail => badRecord detail s
    | none => if s.lines.presence then enterListening s else checkNumber s

/-- No issued entry remains, and the drain may end (R57, R108). -/
def drainDue (s : State) : Bool := decide (s.membership.state = .draining) && s.queue.isEmpty

/-- The end of a drain (R57, R59). -/
def endDrain (s : State) : State :=
  match s.membership.drainTarget with
  | some .listening => recheckRecord s
  | some .withdrawn => enterWithdrawn s
  | none => enterWithdrawn s

/-- A LEAVING station's last entry has retired (R55). -/
def detachDue (s : State) : Bool := decide (s.membership.state = .leaving) && s.queue.isEmpty

/-- A LISTENING station may begin initialization (R47). -/
def listenWaitDue (s : State) : Bool :=
  decide (s.membership.state = .listening) && decide (s.settings.listenWait ≤ s.membership.silence) &&
    !s.lines.readySample && decide (lowestPresent s.membership.roster = some s.number)

end Sys2Proof.Machine
end

