-- ==== Sys2Proof/Machine/Data.lean ====
section
/-! DEFINITION. The Data Unit (chapter 10): the capture and judgement of read bursts, the drive of write bursts, alert
windows, and what each alert of the channel memory does. -/

namespace Sys2Proof.Machine

/-! ### The drive and capture schedule (R172, R174, R176) -/

/-- The burst of an issued entry's column command whose data slot is this one, under a latency. -/
def dueBurst (latency slot : Nat) (m : MemFields) : Option Nat :=
  match m.issueSlot with
  | none => none
  | some i => if i + latency ≤ slot ∧ slot < i + latency + m.bursts.toNat then some (slot - (i + latency)) else none

/-- An entry in READ_ISSUED with the burst it captures in the slot in hand. -/
def captureOfEntry (s : State) (e : Entry) : Option (Entry × MemFields × Nat) :=
  match e.phase, e.mem with
  | .readIssued, some m => (dueBurst s.timing.readLatency s.slot m).map fun i => (e, m, i)
  | _, _ => none

/-- The capture of the slot in hand (R174). -/
def captureOf (s : State) : Option (Entry × MemFields × Nat) := s.queue.findSome? (captureOfEntry s)

/-- What an entry in WRITE_ISSUED drives in the slot in hand. -/
def driveOfEntry (s : State) (e : Entry) : Option DataSlot :=
  match e.phase, e.mem with
  | .writeIssued, some m =>
    match dueBurst s.timing.writeLatency s.slot m with
    | none => none
    | some i => m.writeData[i]?.map fun b => ⟨b.data, b.mask, burstCheck b.data⟩
  | _, _ => none

/-- The drive of the slot in hand (R176). -/
def driveOf (s : State) : Option DataSlot := s.queue.findSome? (driveOfEntry s)

/-- The station drives its burst of the slot in hand (R176). -/
def driveBurst (s : State) : State :=
  if s.dataUnit.driving.isSome then s else s.withDataUnit { s.dataUnit with driving := driveOf s }

/-- What the stations drive on the data lines in the slot in hand: this station's own burst (R176), else the one that a step has
brought; none where that is not known (R5, notes/assumptions/10.md). Where two stations of one number both drive (R136), the
own burst alone counts: DESIGN CHOICE (notes/assumptions/23.md). -/
def drivenSlot (s : State) : Option DataSlot := s.dataUnit.driving.orElse fun _ => s.work.peerBurst

/-! ### Reads (R96, R165, R174) -/

/-- A read that fails without a retry left is answered DATA_ERROR, which is recorded; an EXCL_READ loses the reservation
its last READ command set (R96, R165, R174). -/
def failRead (tag : Tag) (m : MemFields) (s : State) : State :=
  let s := recordFault .readDataError (tagDetail tag) (answerEntry tag .dataError s)
  if m.kind = .exclRead then s.withTable (s.table.failRead m) else s

/-- A read that fails for the first time owes its retry (R96, R174). -/
def retryRead (tag : Tag) (s : State) : State :=
  let s := s.withCounters { s.counters with readRetries := s.counters.readRetries + 1 }
  changeEntry tag
    (fun e =>
      { e with
        phase := .retryWait
        mem := e.mem.map fun m =>
          { m with captured := [], captureFailed := false, retryUsed := true, retrySlot := some s.slot } })
    s

/-- The judgement of a READ command at the end of its last data slot (R96, R174). -/
def judgeRead (tag : Tag) (m : MemFields) (s : State) : State :=
  if m.captureFailed then
    if m.retryUsed || decide (s.membership.state = .draining) then failRead tag m s else retryRead tag s
  else answerEntry tag .ok s

/-- An entry's fields with a captured burst (R174). -/
def MemFields.capture (m : MemFields) (data : BurstData) (check : Byte) : MemFields :=
  { m with captured := m.captured ++ [data], captureFailed := m.captureFailed || decide (burstCheck data ≠ check) }

/-- The capture of the slot in hand, with the judgement of its READ command at the last burst (R174). -/
def captureBurst (data : BurstData) (check : Byte) (s : State) : State :=
  match captureOf s with
  | none => s
  | some (e, m, i) =>
    let m' := m.capture data check
    let s := s.withWork { s.work with captured := true }
    let s := changeEntry e.tag (fun e => { e with mem := some m' }) s
    if i + 1 = m.bursts.toNat then retireDone false (judgeRead e.tag m' s) else s

/-! ### Alert windows (R97, R177) -/

/-- The entry's alert window has expired (R97). -/
def windowExpired (window slot : Nat) (e : Entry) : Bool :=
  match e.phase, e.mem with
  | .writeIssued, some m =>
    match m.issueSlot with
    | none => false
    | some i => decide (i + window ≤ slot)
  | _, _ => false

/-- The outcome of a clean window (R97). -/
def cleanOutcome (e : Entry) : EntryOutcome :=
  match e.mem with
  | none => .ok
  | some m => if m.kind = .exclWrite then .exokay else .ok

/-- The entries whose windows expire are answered (R97, R177). -/
def expireWindows (s : State) : State :=
  s.withQueue
    (s.queue.map fun e => if windowExpired s.timing.alertWindow s.slot e then e.answer (cleanOutcome e) else e)

/-- Some entry's window expires in the slot in hand. -/
def windowDue (s : State) : Bool := s.queue.any (windowExpired s.timing.alertWindow s.slot)

/-! ### A COMMAND_ERROR alert (R78, R178) -/

/-- The command observed two slots earlier, by its issuer (R78). -/
def issuerTwoBack (s : State) : Option StationNo :=
  if s.work.observed.isSome then s.work.issuerTwoBack
  else
    match s.mirror.kept with
    | none => none
    | some k => k.olderIssuer

/-- The entry's WRITE command, issued in a slot, is still in WRITE_ISSUED. -/
def writeIssuedIn (slot : Nat) (e : Entry) : Bool :=
  match e.phase, e.mem with
  | .writeIssued, some m => decide (m.issueSlot = some slot)
  | _, _ => false

/-- The fence stands for this station's write over the entry's range. -/
def fencesEntry (f : WriteFence) (number : StationNo) (m : MemFields) : Bool :=
  decide (f.issuer = number) && decide (f.bank = m.bank) && decide (f.row = rowCheck m.row) &&
    decide (f.column = m.column) && decide (f.bursts = m.bursts)

/-- The own fence over an entry's range is cleared (R178, R181). -/
def clearFenceOver (e : Entry) (s : State) : State :=
  match s.mirror.fence, e.mem with
  | some f, some m => if fencesEntry f s.number m then dropFence s else s
  | _, _ => s

/-- The station's own WRITE, refused by the memory, is answered DATA_ERROR (R178). -/
def refuseOwnWrite (s : State) : State :=
  match s.queue.find? fun e => decide (2 ≤ s.slot) && writeIssuedIn (s.slot - 2) e with
  | none => s
  | some e => clearFenceOver e (failWrite e.tag s)

/-- The alert at the station state: recorded and taken as R51, R54, R45 and R50 give. An INITIALIZING station is LISTENING from
here on, so that its own CLOSE_ALL(INIT) of the slot, where the alert is taken first, is a sync point that it observes: DESIGN
CHOICE, R50 names no order (notes/assumptions/39.md). -/
def takeCommandAlert (s : State) : State :=
  let recorded := recordFault .commandAlert (optionalDetail (issuerTwoBack s)) s
  match s.membership.state with
  | .initializing => enterListening recorded
  | _ => takeDoubt (if recordsDoubt s then recorded else s)

/-- The states in which the station takes what the lane carries: every one but OFF and LOADING. The slot in which the
record is judged is a slot of LOADING (R38, R65). -/
def takesLane (s : State) : Bool :=
  match s.membership.state with
  | .off => false
  | .loading => false
  | _ => !s.work.arrived

/-! ### A WRITE_CHECK alert (R179 to R181) -/

/-- The WRITE that an alert of the slot in hand is attributed to, by the record as the previous slot left it (R179). -/
def attributedWrite (s : State) : Option Attribution :=
  let record :=
    match s.work.replacedAttribution with
    | some old => old
    | none => s.dataUnit.attribution
  match record with
  | none => none
  | some a => if a.slot < s.slot ∧ s.slot < a.slot + s.timing.alertWindow then some a else none

/-- A write's retry may be owed: a MEMBER, or LEAVING without the leave-doubt condition (R97). -/
def retriesWrites (s : State) : Bool :=
  match s.membership.state with
  | .member => true
  | .leaving => !s.membership.leaveDoubt
  | _ => false

/-- The alerted entry goes to RETRY_WAIT (R97, R181). -/
def retryWrite (tag : Tag) (s : State) : State :=
  let s := s.withCounters { s.counters with writeRetries := s.counters.writeRetries + 1 }
  changeEntry tag
    (fun e =>
      { e with
        phase := .retryWait
        mem := e.mem.map fun m => { m with retryUsed := true, retrySlot := some s.slot } })
    s

/-- The entry has taken its one retry. -/
def Entry.retryUsed (e : Entry) : Bool :=
  match e.mem with
  | none => false
  | some m => m.retryUsed

/-- No later event of the slot changes what the alert does to the entry: its retry is used, the station is draining, or it is in
RESYNC or leave-doubt with the slot's command, the one event that ends those, taken. -/
def alertSettled (s : State) (e : Entry) : Bool :=
  e.retryUsed ||
    match s.membership.state with
    | .draining => true
    | .resync => s.work.observed.isSome
    | .leaving => s.membership.leaveDoubt && s.work.observed.isSome
    | _ => false

/-- The attributed alert at its issuer's entry, at the state the station is in (R97, R181). -/
def answerAlerted (e : Entry) (s : State) : State :=
  if retriesWrites s && !e.retryUsed then retryWrite e.tag s
  else failWrite e.tag (s.withWork { s.work with alertFailed := true })

/-- The alert attributed in the slot in hand at this station's own entry still in WRITE_ISSUED: judged as soon as no later event
of the slot can change the outcome, and otherwise by the state that the slot leaves (R97, R181, notes/assumptions/37.md). -/
def judgeAlerted (closing : Bool) (s : State) : State :=
  match s.work.attributed with
  | none => s
  | some a =>
    if a.issuer = s.number then
      match s.queue.find? (writeIssuedIn a.slot) with
      | none => s
      | some e => if closing || alertSettled s e then answerAlerted e s else s
    else s

/-- The last alerted write that an attribution sets (R172). -/
def alertedWriteOf (s : State) (a : Attribution) : AlertedWrite where
  issuer := a.issuer
  bank := a.bank
  row := a.row
  column := a.column
  bursts := a.bursts
  limit := s.slot + 4 * s.timing.alertWindow

/-- An attributed alert (R172, R181): the last alerted write is set, but for an issuer sampled falling in the slot, and the
entry and the fence follow. -/
def takeAttributed (a : Attribution) (s : State) : State :=
  let s := s.withDataUnit
    { s.dataUnit with lastAlerted := if inRoster s.work.fell a.issuer then none else some (alertedWriteOf s a) }
  retireDone false (judgeAlerted false (s.withWork { s.work with attributed := some a }))

/-- An observed WRITE_CHECK alert (R179). -/
def writeCheckAlert (s : State) : State :=
  let s := s.withWork { s.work with writeAlert := true }
  if takesLane s then
    match attributedWrite s with
    | none => s
    | some a => takeAttributed a s
  else s

/-- A LEAVING station whose last entry retires in the slot in hand leaves it DETACHED (R55). -/
def detaches (s : State) : Bool :=
  decide (s.membership.state = .leaving) && (retireWalk s.slot true false s.queue).1.isEmpty

/-- The tag of the entry that the attributed alert has sent to RETRY_WAIT. -/
def alertedRetry (a : Attribution) (s : State) : Option Tag :=
  (s.queue.find? fun e => e.retriedIn s.slot && decide (e.mem.bind MemFields.issueSlot = some a.slot)).map Entry.tag

/-- The slot's end at the write fence, for the alert attributed in the slot (R180, R181): a station that the slot leaves a holder
sets its fence, in place of one that stands, or records ORPHAN_WRITE when the issuer is absent. At the issuer the fence names
the entry that owes its retry, and does not stand for one answered DATA_ERROR. Whether a LEAVING station detaches in the slot is
read before the fenced entry of a replaced fence is failed, which may then be its last: DESIGN CHOICE
(notes/assumptions/44.md). -/
def settleFence (a : Attribution) (s : State) : State :=
  if holdsFence s.membership.state && !detaches s then
    if inRoster s.membership.roster a.issuer then
      let s := if s.mirror.fence.isSome then failFencedEntry s else s
      if s.work.alertFailed then dropFence s
      else
        (s.withMirror { s.mirror with fence := some (fenceOf s a) }).withDataUnit
          { s.dataUnit with fencedEntry := if a.issuer = s.number then alertedRetry a s else none }
    else recordFault .orphanWrite (stationDetail a.issuer) s
  else s

/-- The slot's end at the alert attributed in it. -/
def closeAlert (s : State) : State :=
  match s.work.attributed with
  | none => s
  | some a => settleFence a (judgeAlerted true s)

/-! ### The whole of a COMMAND_ERROR alert -/

/-- An observed COMMAND_ERROR alert (R78, R178). WRITE_DATA_ERROR of the station's own refused WRITE is recorded before COMMAND_ALERT,
where R191 lets either be first: DESIGN CHOICE (notes/assumptions/26.md). -/
def commandErrorAlert (s : State) : State :=
  let s := s.withWork { s.work with commandAlert := true }
  if takesLane s then retireDone false (judgeAlerted false (takeCommandAlert (refuseOwnWrite s))) else s

end Sys2Proof.Machine
end

