-- ==== Sys2Proof/Machine/Claim.lean ====
section
/-! DEFINITION. The Candidate Selector (chapter 6) and the Claim Unit (chapter 7): the offered set, the judgement and the
weight of each entry's command, the maintenance candidate, the contest of the claim phase, and the read-back. -/

namespace Sys2Proof.Machine

/-! ### The offered set (R94, R110 to R114) -/

/-- The states in which the queue offers entries (R94). -/
def offersEntries (s : State) : Bool :=
  match s.membership.state with
  | .member => true
  | .leaving => !s.membership.leaveDoubt
  | _ => false

/-- An entry's command is the retry of the fenced write: the fenced entry's, over the fence's own range (R114, R181). -/
def isFencedRetry (s : State) (e : Entry) (m : MemFields) : Bool :=
  decide (e.phase = .retryWait) && m.kind.isWrite && decide (s.dataUnit.fencedEntry = some e.tag) &&
    match s.mirror.fence with
    | none => false
    | some f => fencesEntry f s.number m

/-- An EXCL_WRITE in WAITING whose next command is its WRITE is put to the Reservation Table (R113, R168). -/
def failsExclusive (s : State) (e : Entry) (m : MemFields) (c : LaneCommand) : Bool :=
  decide (m.kind = .exclWrite) && decide (e.phase = .waiting) && isColumn c && !s.table.covers m

/-- The Selector's work on one entry, with the entries older than it (R111 to R114). -/
def selectEntry (s : State) (k : KeptFields) (mirror : KnownMirror) (older : List Entry) (e : Entry) : Entry :=
  match e.mem with
  | none => e
  | some m =>
    if e.phase.owing && !older.any (fun o => blocks o m) then
      let c := m.nextCommand mirror
      if failsExclusive s e m c then
        { e with phase := .done .exfail, mem := some { m with judged := none } }
      else
        { e with
          mem := some { m with
            judged := some ⟨c, eligible s.timing s.slot k mirror s.mirror.fence (isFencedRetry s e m) c⟩ } }
    else { e with mem := some { m with judged := none } }

/-- The Selector's work on the queue, oldest first. -/
def selectAll (s : State) (k : KeptFields) (mirror : KnownMirror) : List Entry → List Entry → List Entry
  | _, [] => []
  | older, e :: rest => selectEntry s k mirror older e :: selectAll s k mirror (older ++ [e]) rest

/-- The queue as the Selector leaves it. In a state that offers no entries it is not touched (R110). -/
def selectQueue (s : State) : List Entry :=
  match s.mirror.kept, s.mirror.known with
  | some k, some m => if offersEntries s then selectAll s k m [] s.queue else s.queue
  | _, _ => s.queue

/-! ### Class and score (R117 to R119) -/

/-- The base of a command's score (R118). -/
def baseScore : LaneCommand → Nat
  | .read .. => 16
  | .write .. => 16
  | .openRow .. => 8
  | .close .. => 4
  | _ => 0

/-- The direction bonus (R118, R119). -/
def directionBonus (last : Option Direction) : LaneCommand → Nat
  | .read .. => if last = some .read then 3 else 0
  | .write .. => if last = some .write then 3 else 0
  | _ => 0

/-- An entry's class as a claim class (R115). -/
def EntryClass.claim : EntryClass → ClaimClass
  | .ordinary => .ordinary
  | .priority => .priority

/-- The class and the score an entry claims a command with: a retry's own (R117), or by the arithmetic (R118). -/
def weight (last : Option Direction) (phase : Phase) (m : MemFields) (c : LaneCommand) : ClaimClass × Nat :=
  let score := baseScore c + directionBonus last c + m.age
  match phase with
  | .retryWait => if m.kind.isWrite then (.maintenance, 62) else (.priority, score)
  | _ => (m.cls.claim, score)

/-- The candidate that the entry at a queue position makes in the slot, if its command is eligible (R124, R125). -/
def entryCandidate (last : Option Direction) (position : Nat) (e : Entry) : Option Candidate :=
  match e.mem with
  | none => none
  | some m =>
    match m.judged with
    | none => none
    | some j =>
      if j.eligible then
        let w := weight last e.phase m j.command
        some { source := .queue position e.tag, command := j.command, cls := w.1, score := w.2 }
      else none

/-- A class and score outrank another's: class first, then score (R124, R128). -/
def outranks (a b : Candidate) : Bool :=
  decide (b.cls.code < a.cls.code) || (decide (a.cls.code = b.cls.code) && decide (b.score < a.score))

/-- The best of two candidates, the first standing at a tie. -/
def better : Option Candidate → Option Candidate → Option Candidate
  | none, b => b
  | some a, none => some a
  | some a, some b => if outranks b a then some b else some a

/-- The best candidate of the entries from a queue position on, the oldest at a tie. -/
def pickFrom (last : Option Direction) : Nat → List Entry → Option Candidate
  | _, [] => none
  | position, e :: rest => better (entryCandidate last position e) (pickFrom last (position + 1) rest)

/-- The queue candidate: the highest, the oldest at a tie (R124). -/
def pick (last : Option Direction) (q : List Entry) : Option Candidate := pickFrom last 0 q

/-! ### Maintenance candidates (R48, R86, R129, R130, R150) -/

/-- The command of an initialization step (R48). Each REFRESH carries check value 0. -/
def initCommand (s : State) : InitStep → LaneCommand
  | .setReadLatency => .modeSet 0 (BitVec.ofNat 4 s.timing.readLatency)
  | .setWriteLatency => .modeSet 1 (BitVec.ofNat 4 s.timing.writeLatency)
  | .setCheckEnable => .modeSet 2 1
  | .setAlertEnable => .modeSet 3 1
  | .closeAll => .closeAll 0 .init s.settings.digest
  | .firstRefresh => .refresh 0
  | .secondRefresh => .refresh 0

/-- An initialization step is due: by the command block alone, or by the mirror for a REFRESH (R48, R84, R85). -/
def initDue (s : State) (k : KeptFields) : InitStep → Bool
  | .firstRefresh | .secondRefresh =>
    match s.mirror.known with
    | none => false
    | some m => eligible s.timing s.slot k m s.mirror.fence false (.refresh 0)
  | .setReadLatency | .setWriteLatency | .setCheckEnable | .setAlertEnable | .closeAll => k.unblocked s.slot

/-- The initializing station's candidate (R48). -/
def initCandidate (s : State) (k : KeptFields) : Option Candidate :=
  match s.membership.initStep with
  | none => none
  | some st =>
    if initDue s k st then
      some { source := .initialization, command := initCommand s st, cls := .maintenance, score := 63 }
    else none

/-- The recovery candidate (R52, R54, R86). -/
def recoverCandidate (s : State) (k : KeptFields) : Option Candidate :=
  if k.recoverable s.settings.resyncHold s.slot then
    some { source := .recovery, command := .closeAll 0 .recover s.settings.digest, cls := .maintenance, score := 63 }
  else none

/-- The candidate of the Refresh and Quiet Controller, which has none while the mirror is doubted (R150, R161). -/
def refreshCandidate (s : State) (k : KeptFields) : Option Candidate :=
  match s.mirror.known with
  | none => none
  | some m => controllerCandidate s k m

/-- The maintenance candidate of the slot, by the station state (R129). A LEAVING station offers the completing REFRESH
alone. -/
def maintenanceOf (s : State) : Option Candidate :=
  match s.mirror.kept with
  | none => none
  | some k =>
    match s.membership.state with
    | .initializing => initCandidate s k
    | .member => refreshCandidate s k
    | .resync => recoverCandidate s k
    | .leaving => if s.membership.leaveDoubt then recoverCandidate s k else refreshCandidate s k
    | .off | .loading | .listening | .draining | .detached | .withdrawn => none

/-- The queue candidate of the slot (R125, R126). -/
def queueOf (s : State) (q : List Entry) : Option Candidate :=
  match s.mirror.kept with
  | none => none
  | some k => if offersEntries s && s.mirror.known.isSome then pick k.lastDirection q else none

/-- The Claim Unit's choice: the higher class, then the higher score, then the maintenance candidate (R131). -/
def choose (queue maintenance : Option Candidate) : Option Candidate := better maintenance queue

/-! ### The contest (R133, R134) -/

/-- The bit times that remain, from bit `n - 1` down to bit 0: the bits this station asserts, and whether it is still in
contention at the end. A station leaves contention when it leaves the lines released and samples 1, which `peers` says of
the other stations' assertions. -/
def contest (word peers : ClaimBits) : Nat → ClaimBits × Bool
  | 0 => (0, true)
  | n + 1 =>
    if word.getLsbD n then ((contest word peers n).1 ||| (1#11 <<< n), (contest word peers n).2)
    else if peers.getLsbD n then (0, false)
    else contest word peers n

/-- The claim of a chosen candidate (R128, R133). -/
def claimOf (s : State) (peers : ClaimBits) (c : Candidate) : Claim :=
  let word := claimWord c.cls c.score s.number
  { candidate := c, word := word, driven := (contest word peers 11).1, won := (contest word peers 11).2 }

/-- claims_won and claims_lost after a slot's claim phase (R142). -/
def countClaim (claim : Option Claim) (c : Counters) : Counters :=
  match claim with
  | none => c
  | some k =>
    if k.won then { c with claimsWon := c.claimsWon + 1 } else { c with claimsLost := c.claimsLost + 1 }

/-- The EXCL_WRITE entries that the judgement of the slot has just answered EXFAIL (R168). -/
def newlyFailed (before after : List Entry) : Nat :=
  after.countP (fun e => decide (e.phase = .done .exfail)) - before.countP (fun e => decide (e.phase = .done .exfail))

/-- The claim phase of the slot (R111, R131, R133, R142, R168). exclusive_failures rises by the number of entries answered EXFAIL,
one for each as R168 gives: DESIGN CHOICE, since R193 says by 1 for each such slot (notes/assumptions/40.md). -/
def claimPhase (peers : ClaimBits) (s : State) : State :=
  let s := expireFence s
  let q := selectQueue s
  let failed := newlyFailed s.queue q
  let queue := queueOf s q
  let maintenance := maintenanceOf s
  let claim := (choose queue maintenance).map (claimOf s peers)
  let counted := countClaim claim s.counters
  ((s.withQueue q).withCounters
      { counted with exclusiveFailures := counted.exclusiveFailures + BitVec.ofNat 32 failed }).withWork
    { s.work with
      claimTaken := true, queueCandidate := queue, maintenanceCandidate := maintenance, claim := claim }

/-! ### The read-back (R4, R138, R139) -/

/-- The phase a column command puts its entry in (R95). -/
def issuedPhase (kind : MemKind) : Phase := if kind.isWrite then .writeIssued else .readIssued

/-- The Reservation Table at the issue of an entry's column command: an EXCL_READ sets (R164), an EXCL_WRITE's first WRITE
consumes (R169). -/
def issueTable (s : State) (e : Entry) (m : MemFields) : ReservationTable :=
  match m.kind with
  | .exclRead => s.table.setFor m s.slot
  | .exclWrite => if e.phase = .waiting then s.table.drop m.thread else s.table
  | .read => s.table
  | .write => s.table

/-- The queue takes the issue of an entry's column command (R95). -/
def issueColumn (e : Entry) (m : MemFields) (s : State) : State :=
  let s := s.withTable (issueTable s e m)
  changeEntry e.tag
    (fun e =>
      { e with
        phase := issuedPhase m.kind
        mem := e.mem.map fun m =>
          { m with issueSlot := some s.slot, retrySlot := none, captured := [], captureFailed := false } })
    s

/-- The issue of the candidate is handed to its source (R138, R154). -/
def takeIssue (c : Candidate) (s : State) : State :=
  match c.source with
  | .queue _ tag =>
    if isColumn c.command then
      match findEntry tag s with
      | none => s
      | some e =>
        match e.mem with
        | none => s
        | some m => issueColumn e m s
    else s
  | .controller | .initialization | .recovery =>
    match c.command with
    | .refresh _ => s.withCounters { s.counters with refreshesIssued := s.counters.refreshesIssued + 1 }
    | _ => s

/-- The word the winner drives (R137). -/
def drivenWord (s : State) (c : Candidate) : LaneBits := encodeCommand s.number c.command

/-- The claim won in the slot in hand whose command phase is still to be read back. -/
def wonClaim (s : State) : Option Claim :=
  match s.work.claim with
  | none => none
  | some k => if k.won && s.work.readBack.isNone then some k else none

/-- A read-back that differs withdraws the station: CLAIM_FAULT, with the issuer the sampled word names (R139). -/
def claimFault (sampled : LaneBits) (s : State) : State :=
  let s := recordFault .claimFault (optionalDetail (observedIssuer (decodeCommand sampled))) s
  withdrawByDrain (s.withWork { s.work with faulted := true })

/-- The read-back of a won command phase, which compares all 48 bits (R4, R194). -/
def readBack (sampled : LaneBits) (s : State) : State :=
  match wonClaim s with
  | none => s
  | some k =>
    let s := s.withWork { s.work with readBack := some sampled }
    if sampled = drivenWord s k.candidate then takeIssue k.candidate s else claimFault sampled s

/-! ### What comes before the first event of a slot's end (R1, R95, R110, R138) -/

/-- The start of a slot: the limits that it reaches, and the drive of its data slot. -/
def startSlot (s : State) : State := driveBurst (expireFence s)

/-- The claim phase, if it has not been taken: no other station claims (notes/assumptions/4.md). -/
def defaultClaim (s : State) : State := if s.work.claimTaken then s else claimPhase 0 s

/-- The read-back of a won command phase that has not been taken: the lines carry the word this station drives. -/
def defaultReadBack (s : State) : State :=
  match wonClaim s with
  | none => s
  | some k => readBack (drivenWord s k.candidate) s

/-- The first event of a slot's end finds the claim phase and the command phase over, and an issue taken (R95, R138): those of
them that no step has brought are taken as the model fixes them (notes/assumptions/4.md). -/
def reachEnd (s : State) : State :=
  if s.work.ended then s
  else
    let c := defaultClaim (startSlot s)
    markEnded (wonClaim c).isSome (!s.work.claimTaken) (defaultReadBack c)

/-- The claim phase, if it has not been taken, of a slot whose command phase carries a word: the station has won it where it
would have driven that word, and otherwise other stations have (notes/assumptions/4.md). -/
def claimBefore (w : LaneBits) (s : State) : State :=
  if s.work.claimTaken then s
  else
    match wonClaim (claimPhase 0 s) with
    | none => claimPhase 0 s
    | some k => if w = drivenWord s k.candidate then claimPhase 0 s else claimPhase (BitVec.allOnes 11) s

/-- The same before the observation of a command phase that carries a word, which a station that has won reads back (R4). -/
def reachObservation (w : LaneBits) (s : State) : State :=
  if s.work.ended then s else markEnded false false (readBack w (claimBefore w (startSlot s)))

/-! ### A read-back that differs after an event of the slot's end (R42, R59, R93, R139) -/

/-- An entry as it stood before the issue of its column command, in WAITING or owing its retry. -/
def Entry.unissued (e : Entry) : Entry :=
  { e with
    phase := if e.retryUsed then .retryWait else .waiting
    mem := e.mem.map fun m => { m with issueSlot := none } }

/-- The entry's column command is the one of a slot. -/
def Entry.issuedIn (slot : Nat) (e : Entry) : Bool := e.phase.issued && decide (e.mem.bind MemFields.issueSlot = some slot)

/-- An entry that has not been issued after all takes what the slot's events have done to entries in WAITING and RETRY_WAIT: a write
retry that an entry to RESYNC or leave-doubt answers (R98), and a drain's ABORTED (R56). -/
def missedEvents (e : Entry) (s : State) : State :=
  if s.work.doubted.isSome && e.isWriteRetry then retireDone false (loseWriteRetry e s)
  else
    match s.membership.state with
    | .draining => retireDone false (drainEntry e s)
    | _ => s

/-- The issue of an entry's column command is taken back. The table that the issue changed is emptied by the drain that follows. -/
def takeBackColumn (tag : Tag) (s : State) : State :=
  match findEntry tag s with
  | none => s
  | some e => if e.issuedIn s.slot then missedEvents e.unissued (changeEntry tag Entry.unissued s) else s

/-- The issue of a candidate is taken back. -/
def takeBackIssue (c : Candidate) (s : State) : State :=
  match c.source with
  | .queue _ tag => if isColumn c.command then takeBackColumn tag s else s
  | .controller | .initialization | .recovery =>
    match c.command with
    | .refresh _ => s.withCounters { s.counters with refreshesIssued := s.counters.refreshesIssued - 1 }
    | _ => s

/-- The sampled word of a command phase whose read-back was taken to be equal, brought after events of the slot's end. A word that
differs takes no issue, and its CLAIM_FAULT is taken after those events: a LEAVE, a RESTART or a request of the slot comes first
then (R42, R59, R93, R139, notes/assumptions/45.md). -/
def lateReadBack (sampled : LaneBits) (s : State) : State :=
  if s.work.presumed && s.work.observed.isNone then
    let s' := s.withWork { s.work with presumed := false, readBack := some sampled }
    match s.work.claim with
    | none => s'
    | some k => if s.work.readBack = some sampled then s' else claimFault sampled (takeBackIssue k.candidate s')
  else s

end Sys2Proof.Machine
end

