-- ==== Sys2Proof/Machine/Observe.lean ====
section
/-! DEFINITION. The observation of a command phase: what each block does, at the end of the slot, with the command the
lines carried or with its absence (R2, R66, R120 to R123, R140, R147, R148, R163, R166, R172, R182, chapter 3). -/

namespace Sys2Proof.Machine

/-! ### Ageing (R120 to R123) -/

/-- The observed command did what an entry's OPEN or CLOSE needed (R120). -/
def servedBy (o : Observed) (c : LaneCommand) : Bool :=
  match c, o with
  | .openRow _ bank row, .command _ (.openRow _ b r) => decide (b = bank) && decide (r = row)
  | .close _ bank, .command _ (.close _ b) => decide (b = bank)
  | .close .., .command _ (.closeAll ..) => true
  | _, _ => false

/-- The ageing step of an entry that was passed over (R121). -/
def ageStep (c : Settings) (m : MemFields) : MemFields :=
  let guarded : MemFields :=
    if m.age = c.ageMax then
      let g := if m.guardCount = c.guardMax then m.guardCount else m.guardCount + 1
      { m with guardCount := g, cls := if g = c.guardMax then .priority else m.cls }
    else m
  { guarded with age := min (m.age + c.ageStep) c.ageMax }

/-- The end of a slot at an entry: it takes the ageing step when its command was eligible in the slot and it was not
served (R120, R122). An entry whose column command was issued is no longer owing, and was served. -/
def ageEntry (c : Settings) (o : Observed) (e : Entry) : Entry :=
  match e.mem with
  | none => e
  | some m =>
    match m.judged with
    | none => e
    | some j =>
      if j.eligible && e.phase.owing && !servedBy o j.command then { e with mem := some (ageStep c m) } else e

/-- The ageing of the slot. -/
def ageQueue (o : Observed) (s : State) : State := s.withQueue (s.queue.map (ageEntry s.settings o))

/-! ### What an observation does at every station (R64, R66) -/

/-- The mark that the slot's command phase is observed, with the older of the recent issuers kept for an alert of the same
slot (R78). -/
def markObserved (o : Observed) (s : State) : State :=
  s.withWork
    { s.work with
      observed := some o
      issuerTwoBack :=
        match s.mirror.kept with
        | none => none
        | some k => k.olderIssuer }

/-- The channel memory takes the command at the end of its slot (R2). -/
def giveMemory (o : Observed) (s : State) : State :=
  s.withMemory (s.memory.take (fun i => decide (s.loader.straps = some i)) o)

/-- The recent issuers move on (R66). A station withdrawn by a bad record at loading has kept fields without value, and they stay
so: DESIGN CHOICE (notes/assumptions/46.md). -/
def moveIssuers (o : Observed) (s : State) : State :=
  s.withMirror { s.mirror with kept := s.mirror.kept.map fun k => k.moveIssuers o }

/-! ### A WRITE command at the table, the Data Unit and the fence (R163, R166, R172, R182) -/

/-- The row the station's mirror holds open in a bank, none while it is doubted. A mirror that an earlier event of the slot has
doubted counts as doubted: DESIGN CHOICE (notes/assumptions/53.md). -/
def mirrorRow (s : State) (bank : BankNo) : Option RowNo :=
  match s.mirror.known with
  | none => none
  | some m => m.openRow bank

/-- A WRITE command matches the last alerted write (R172). -/
def matchesAlerted (w : Option AlertedWrite) (i : StationNo) (check : CheckValue) (bank : BankNo) (column : ColumnNo)
    (bursts : BurstCount) : Bool :=
  match w with
  | none => false
  | some w =>
    decide (w.issuer = i) && decide (w.bank = bank) && decide (w.row = check) && decide (w.column = column) &&
      decide (w.bursts = bursts)

/-- A WRITE command is the fence's retry (R182). -/
def matchesFence (f : Option WriteFence) (i : StationNo) (check : CheckValue) (bank : BankNo) (column : ColumnNo)
    (bursts : BurstCount) : Bool :=
  match f with
  | none => false
  | some f =>
    decide (f.issuer = i) && decide (f.bank = bank) && decide (f.row = check) && decide (f.column = column) &&
      decide (f.bursts = bursts)

/-- The attribution record replaced by a WRITE command, and the last alerted write it matches taken away (R172). -/
def noteAttribution (i : StationNo) (check : CheckValue) (bank : BankNo) (column : ColumnNo) (bursts : BurstCount)
    (s : State) : State :=
  let retried := matchesAlerted s.dataUnit.lastAlerted i check bank column bursts
  let s := s.withWork { s.work with replacedAttribution := some s.dataUnit.attribution }
  s.withDataUnit
    { s.dataUnit with
      attribution :=
        some { slot := s.slot, issuer := i, bank := bank, column := column, bursts := bursts, row := check,
               retried := retried }
      lastAlerted := if retried then none else s.dataUnit.lastAlerted }

/-- What the blocks other than the mirror do with a WRITE command, by the mirror as it stood before the command. -/
def noteWrite (i : StationNo) (check : CheckValue) (bank : BankNo) (column : ColumnNo) (bursts : BurstCount)
    (s : State) : State :=
  let s := s.withTable (s.table.observeWrite s.timing.writeLatency s.slot (mirrorRow s bank) check bank column bursts)
  let s := noteAttribution i check bank column bursts s
  if matchesFence s.mirror.fence i check bank column bursts then dropFence s else s

/-- What the blocks other than the mirror do with a command that is a WRITE. -/
def noteCommand (i : StationNo) (c : LaneCommand) (s : State) : State :=
  match c with
  | .write check bank column bursts => noteWrite i check bank column bursts s
  | _ => s

/-! ### The mirror (R66, R76) -/

/-- The states that compare check values (R76). -/
def compares (s : State) : Bool :=
  match s.membership.state with
  | .member => true
  | .listening => true
  | .leaving => !s.membership.leaveDoubt
  | _ => false

/-- The mirror whose comparison counts: the known mirror of a state that compares, or the mirror that an entry to RESYNC or
leave-doubt of this very slot has doubted (R51, R76). -/
def comparedMirror (s : State) : Option KnownMirror :=
  if compares s then s.mirror.known else if recordsDoubt s then s.work.doubted else none

/-- The observed command is a mirror fault (R76, R77). -/
def mirrorFault (c : LaneCommand) (s : State) : Bool :=
  !s.work.faulted &&
    match comparedMirror s with
    | none => false
    | some m => m.mismatch c

/-- The command applied to the kept fields and to a known mirror (R66 to R73). Kept fields without value stay so, at a station
withdrawn by a bad record at loading: DESIGN CHOICE (notes/assumptions/46.md). -/
def applyMirror (c : LaneCommand) (s : State) : State :=
  s.withMirror
    { s.mirror with
      kept := s.mirror.kept.map fun k => k.apply s.timing s.slot c
      known := s.mirror.known.map fun m => m.apply s.timing s.slot s.lines.quietSample s.lines.readySample c }

/-- The mirror a sync point makes known (R74). A known mirror stays as the command has left it
(notes/assumptions/30.md). -/
def makeKnown (c : LaneCommand) (s : State) : State :=
  match s.mirror.known, s.mirror.kept with
  | none, some k =>
    s.withMirror
      { s.mirror with known := syncMirror s.timing s.slot s.lines.quietSample s.lines.readySample k c }
  | _, _ => s

/-! ### The station state (R44 to R54) -/

/-- The command is a sync point. -/
def isSync (c : LaneCommand) : Bool := (syncDigest c).isSome

/-- The command is a MODE_SET. -/
def isModeSet : LaneCommand → Bool
  | .modeSet .. => true
  | _ => false

/-- A LISTENING station at a sync point (R44, R46). -/
def listenSync (i : StationNo) (c : LaneCommand) (d : Digest) (s : State) : State :=
  if d = s.settings.digest then
    let s := makeKnown c s
    if s.lines.readySample then enterMember s else s
  else withdrawByDrain (recordFault .configMismatch (stationDetail i) s)

/-- A LISTENING station at an observed command (R44 to R47, R77). A MODE_SET taken before the ready line's rise of the slot finds it
here: DESIGN CHOICE (notes/assumptions/52.md). -/
def listenCommand (i : StationNo) (fault : Bool) (c : LaneCommand) (s : State) : State :=
  let s := s.withMembership { s.membership with silence := 0 }
  let s := if fault || isModeSet c then doubtMirror s else s
  match syncDigest c with
  | none => s
  | some d => listenSync i c d s

/-- The step after an initialization step; the last has none (R48). -/
def InitStep.next : InitStep → Option InitStep
  | .setReadLatency => some .setWriteLatency
  | .setWriteLatency => some .setCheckEnable
  | .setCheckEnable => some .setAlertEnable
  | .setAlertEnable => some .closeAll
  | .closeAll => some .firstRefresh
  | .firstRefresh => some .secondRefresh
  | .secondRefresh => none

/-- An initializing station's own command of its current step (R48, R49). -/
def advanceInit (c : LaneCommand) (s : State) : State :=
  match s.membership.initStep with
  | none => s
  | some st =>
    if c = initCommand s st then
      match st.next with
      | some n => s.withMembership { s.membership with initStep := some n }
      | none => enterMember s
    else s

/-- An INITIALIZING station at an observed command (R48 to R50). -/
def initializeCommand (i : StationNo) (c : LaneCommand) (s : State) : State :=
  if i = s.number then advanceInit c (if isSync c then makeKnown c s else s) else enterListening s

/-- A sync point ends RESYNC, and the leave-doubt condition (R52, R54). -/
def endDoubt (c : LaneCommand) (s : State) : State :=
  if isSync c then
    match s.membership.state with
    | .resync => returnMember (makeKnown c s)
    | .leaving =>
      if s.membership.leaveDoubt then
        makeKnown c (s.withMembership { s.membership with leaveDoubt := false })
      else s
    | _ => s
  else s

/-- The station state at an observed command of an issuer; `fault` says that the check comparison found a mismatch.
A station that a RESTART of the slot has taken from LISTENING to DRAINING finds no CONFIG_MISMATCH in a sync point: DESIGN CHOICE
(notes/assumptions/51.md). -/
def stationCommand (i : StationNo) (fault : Bool) (c : LaneCommand) (s : State) : State :=
  match s.membership.state with
  | .listening => listenCommand i fault c s
  | .initializing => initializeCommand i c s
  | .member | .resync | .leaving =>
    let s := if fault then takeDoubt (recordFault .mirrorFault (stationDetail i) s) else s
    let s := if isModeSet c then takeDoubt s else s
    endDoubt c s
  | .off | .loading | .draining | .detached | .withdrawn => s

/-! ### The whole observation -/

/-- A command at the station, after the ageing and the recent issuers (R66). -/
def takeCommand (i : StationNo) (c : LaneCommand) (s : State) : State :=
  let fault := mirrorFault c s
  followRefresh (stationCommand i fault c (accountCommand c (applyMirror c (noteCommand i c s))))

/-- An undefined command at the station (R50, R194). -/
def takeUndefined (i : StationNo) (s : State) : State :=
  match s.membership.state with
  | .listening => s.withMembership { s.membership with silence := 0 }
  | .initializing => if i = s.number then s else enterListening s
  | _ => s

/-- An empty command phase at the station (R47, R140). -/
def takeEmpty (s : State) : State :=
  if decide (s.membership.state = .listening) && !s.work.silenceSettled then
    s.withMembership { s.membership with silence := saturatingSucc s.membership.silence }
  else s

/-- What the command phase carried, at the station. -/
def takeObserved (o : Observed) (s : State) : State :=
  match o with
  | .empty => takeEmpty s
  | .undefined i => takeUndefined i s
  | .command i c => takeCommand i c s

/-- The observation of a command phase, by the channel memory and by the station (R2). A station in OFF or LOADING takes
nothing of it (R38, R65), but for a REFRESH in the slot of its entry to LISTENING (R148, notes/assumptions/35.md). An alert of
the slot that waits for the state the slot leaves is judged now (R97). -/
def observe (o : Observed) (s : State) : State :=
  let s := giveMemory o s
  if takesLane s then
    retireDone false (judgeAlerted false (takeObserved o (moveIssuers o (ageQueue o (markObserved o s)))))
  else followRefresh (s.withWork { s.work with observed := some o })

end Sys2Proof.Machine
end

