-- ==== Sys2Proof/Machine/Report.lean ====
section
/-! DEFINITION. The report record (R189, R197) and the join of the slot's responses to the response list (R188). -/

namespace Sys2Proof.Machine

/-- The station state's code (R197). A station in OFF makes no report. -/
def stateCode : StationState → BitVec 4
  | .off => 0
  | .loading => 1
  | .listening => 2
  | .initializing => 3
  | .member => 4
  | .resync => 5
  | .leaving => 6
  | .draining => 7
  | .detached => 8
  | .withdrawn => 9

/-- The channel state's code; UNKNOWN while the mirror is doubted (R64, R197). -/
def channelCode : Option KnownMirror → BitVec 2
  | none => 0
  | some m =>
    match m.channel with
    | .initializing => 1
    | .running => 2
    | .sleeping => 3

/-- The duty pointer's code (R197). -/
def dutyCode : Option StationNo → BitVec 4
  | none => 15
  | some n => n.setWidth 4

/-- Word 0 of the report record. -/
def reportWord0 (s : State) : PortWord :=
  (stateCode s.membership.state ++ channelCode s.mirror.known ++ s.number ++ s.membership.roster ++
    dutyCode s.controller.duty ++ BitVec.ofNat 3 s.controller.debt ++ BitVec.ofNat 5 s.queue.length ++
    BitVec.ofNat 3 s.table.reservations.length ++ BitVec.ofBool s.controller.vote ++
    BitVec.ofBool (decide (s.controller.permission = some true)) ++ BitVec.ofBool s.membership.leaveDoubt ++
    BitVec.ofBool (decide (s.membership.drainTarget = some .withdrawn)) ++ BitVec.ofBool s.lines.readySample ++
    BitVec.ofBool s.lines.quietSample ++ 0#26).cast rfl

/-- Word 1: the fault record, fault_set with kind k at bit 41 + k. -/
def reportWord1 (f : FaultRecord) : PortWord :=
  ((match f.first with
    | none => 0#12
    | some (k, detail) => BitVec.ofNat 4 k.code ++ detail) ++ f.kinds ++ 0#42).cast rfl

/-- A word of two counters. -/
def counterWord (high low : Counter) : PortWord := (high ++ low).cast rfl

/-- The six words of the report record (R197). -/
def reportRecord (s : State) : List PortWord :=
  [ reportWord0 s, reportWord1 s.faults, counterWord s.counters.claimsWon s.counters.claimsLost,
    counterWord s.counters.requestsCompleted s.counters.exclusiveFailures,
    counterWord s.counters.readRetries s.counters.writeRetries,
    counterWord s.counters.resyncs s.counters.refreshesIssued ]

/-- A REPORT's kind code. -/
def reportCode : BitVec 4 := 9

/-- The response of a REPORT, from the fields as its slot leaves them (R189). -/
def reportResponse (s : State) (tag : Tag) : Response where
  kind := .retired .ok
  requestKind := reportCode
  tag := tag
  thread := 0
  data := reportRecord s

/-- The response that joins the list. -/
def joinedResponse (s : State) : Joining → Response
  | .made r => r
  | .retired _ r => r
  | .report tag => reportResponse s tag

/-- The responses made in the slot join the young end of the response list (R188). -/
def joinResponses (s : State) : State :=
  s.withPort
    { s.port with responses := s.port.responses ++ s.port.joining.map (joinedResponse s), joining := [] }

end Sys2Proof.Machine
end

