-- ==== Sys2Proof/Machine/Samples.lean ====
section
/-! DEFINITION. The samples of the presence, ready and quiet lines at the end of a slot: what each change does (R6, R7, R40,
R45, R50, R71, R72, R149, R172, R183). -/

namespace Sys2Proof.Machine

/-! ### Presence lines -/

/-- The roster with a station added or removed. -/
def setRoster (roster : StationSet) (s : State) : State := s.withMembership { s.membership with roster := roster }

/-- A duty pointer that a fall of the slot has moved, in the roster that the slot's samples leave (R149). -/
def settleDuty (s : State) : State :=
  match s.work.dutyFell, s.controller.duty with
  | some n, some _ => setDuty (nextInRoster s.membership.roster n) s
  | _, _ => s

/-- A presence line sampled rising (R40, R149). It does not move the duty pointer; a fall of the same slot that did finds the
station in the roster. -/
def takeRise (n : StationNo) (s : State) : State :=
  followRefresh (settleDuty (setRoster (s.membership.roster ||| stationBit n) s))

/-- The duty pointer at a fall: one that names the fallen station moves to the next roster number after it (R149). -/
def dutyFall (n : StationNo) (s : State) : State :=
  if s.controller.duty = some n then
    setDuty (nextInRoster s.membership.roster n)
      (s.withWork { s.work with dutyFell := s.work.dutyFell.orElse fun _ => some n })
  else s

/-- The write fence at a fall of its issuer (R183). -/
def fenceFall (n : StationNo) (s : State) : State :=
  match s.mirror.fence with
  | none => s
  | some f =>
    if f.issuer = n then dropFence (if f.final then s else recordFault .orphanWrite (stationDetail n) s) else s

/-- The last alerted write at a fall of its issuer (R172). -/
def alertedFall (n : StationNo) (s : State) : State :=
  match s.dataUnit.lastAlerted with
  | none => s
  | some w => if w.issuer = n then s.withDataUnit { s.dataUnit with lastAlerted := none } else s

/-- A presence line sampled falling (R40, R149, R172, R183). -/
def takeFall (n : StationNo) (s : State) : State :=
  let s := setRoster (s.membership.roster &&& ~~~ stationBit n) (s.withWork { s.work with fell := s.work.fell ||| stationBit n })
  followRefresh (dutyFall n (alertedFall n (fenceFall n s)))

/-! ### The ready and quiet lines -/

/-- The ready line sampled high, at the station state (R45, R50). An INITIALIZING station is LISTENING from here on: where the sample
is taken before a sync point of the same slot, the station observes that command as LISTENING, and may become MEMBER. DESIGN
CHOICE, R50 and R74 name no order (notes/assumptions/39.md). A LISTENING station that becomes MEMBER here takes a MODE_SET of the
slot that comes after as a MEMBER: DESIGN CHOICE (notes/assumptions/52.md). -/
def readyHigh (s : State) : State :=
  match s.membership.state with
  | .listening => if s.mirror.known.isSome then enterMember s else s
  | .initializing => enterListening s
  | _ => s

/-- A ready sample (R7, R72). -/
def takeReady (high : Bool) (s : State) : State :=
  let s := s.withLines { s.lines with readySample := high }
  let s := s.withMirror { s.mirror with known := s.mirror.known.map fun m => m.sampleReady high }
  if high then readyHigh s else s

/-- The slot's observed command is a CLOSE_ALL(QUIET). -/
def observedQuiet (s : State) : Bool :=
  match s.work.observed with
  | some (.command _ (.closeAll _ .quiet _)) => true
  | _ => false

/-- quiet_hold at a quiet sample (R71). -/
def quietSampled (high closeAllQuiet : Bool) (m : KnownMirror) : KnownMirror :=
  if high then (if closeAllQuiet then { m with quietHold := true } else m) else { m with quietHold := false }

/-- A quiet sample (R7, R71). -/
def takeQuiet (high : Bool) (s : State) : State :=
  let s := s.withLines { s.lines with quietSample := high }
  s.withMirror { s.mirror with known := s.mirror.known.map (quietSampled high (observedQuiet s)) }

end Sys2Proof.Machine
end

