-- ==== Sys2Proof/Machine/Slot.lean ====
section
/-! DEFINITION. The end of a slot, and the start of the next (R1, R9): the steps of the slot that nobody has sent are taken
with what the lines are known to carry, the responses join the list, the drives of the new slot are set, and the channel
memory moves on (notes/assumptions/1.md, 4.md, 8.md, 25.md). -/

namespace Sys2Proof.Machine

/-- The lines that this station itself drives are sampled as it drives them: its presence line and the ready line high, the
quiet line low (R6, R7). -/
def defaultSamples (s : State) : State :=
  let s := if s.lines.presence && !inRoster s.membership.roster s.number then takeRise s.number s else s
  let s := if s.lines.ready && !s.lines.readySample then takeReady true s else s
  if !s.lines.quietReleased && s.lines.quietSample then takeQuiet false s else s

/-- The COMMAND_ERROR alert that the channel memory drives in the slot (R8). -/
def defaultCommandAlert (s : State) : State :=
  if s.memory.alertLine.commandError && !s.work.commandAlert then commandErrorAlert s else s

/-- The WRITE_CHECK alert that the channel memory drives in the slot (R8). -/
def defaultWriteAlert (s : State) : State :=
  if s.memory.alertLine.writeCheck && !s.work.writeAlert then writeCheckAlert s else s

/-- What a command phase carried that nobody has reported: the word read back, or no command. -/
def sampledCommand (s : State) : Observed :=
  match s.work.readBack with
  | some w => decodeCommand w
  | none => .empty

/-- The observation of the command phase. -/
def defaultObserve (s : State) : State := if s.work.observed.isSome then s else observe (sampledCommand s) s

/-- The capture of the slot's burst from what the data lines carry (R5, R18). -/
def defaultCapture (s : State) : State :=
  if s.work.captured then s
  else
    let d := dataLines s.dataUnit.driving s.memory
    captureBurst d.data d.check s

/-- The alert windows that expire in the slot. -/
def defaultWindows (s : State) : State := if windowDue s then expireWindows s else s

/-- Entry to INITIALIZING, DETACHED, or the end of a drain, where the slot leaves the station at one (R47, R55, R57). -/
def defaultState (s : State) : State :=
  let s := if listenWaitDue s then enterInitializing s else s
  let s := if detachDue s then enterDetached s else s
  if drainDue s then endDrain s else s

/-! ### The start record (R26, R29 to R34, R38) -/

/-- A good record: the loaded configuration, the permission, the arrival values and the duplicate-number check (R33, R38,
R39, R65). -/
def acceptRecord (r : Record) (s : State) : State :=
  let s := s.withLoader { s.loader with settings := some (recordSettings r) }
  let s := s.withMirror { s.mirror with kept := some (arrivalValues (recordTiming r) s.slot) }
  checkNumber (resetPermission s)

/-- The last bit of the record arrives: the words are kept and tested, and select and the serial clock are released. -/
def completeRead (r : Record) (s : State) : State :=
  let s := s.withLoader { s.loader with record := some r, selected := false, serialOut := false, serialClock := false }
  let s := s.withWork { s.work with arrived := true, ended := true }
  match judgeRecord r with
  | some detail => badRecord detail s
  | none => acceptRecord r s

/-- The record of a device that does not answer: its last bit arrives whatever the device does (R26). -/
def defaultRecord (s : State) : State :=
  match s.membership.state with
  | .loading =>
    if readOver s.slot && !s.work.arrived then completeRead (recordOfBits absentBits) s else s
  | _ => s

/-! ### The slot -/

/-- The steps of the slot that have not been sent, in their order (notes/assumptions/25.md). -/
def settleSlot (s : State) : State :=
  let s := defaultRecord (defaultSamples (reachEnd s))
  let s := defaultCapture (defaultObserve (defaultWriteAlert (defaultCommandAlert s)))
  let s := retireDone true (countPeriod (closeAlert (defaultWindows s)))
  settleAccount (recastVote (countIdle (defaultState s)))

/-- The whole of a slot's end at the station: the responses made in it join the list (R188). -/
def finishSlot (s : State) : State := joinResponses (settleSlot s)

/-- An entry as the next slot finds it: the Selector's work is made anew (R110). -/
def Entry.nextSlot (e : Entry) : Entry := e.changeMem fun m => { m with judged := none }

/-- The serial output of the start port in a slot of LOADING (R26, R27, R198). -/
def nextSerial (st : StationState) (slot : Nat) : Bool :=
  match st with
  | .loading => serialBit slot
  | _ => false

/-- The station in the first moment of the next slot (R1, R9, R110, R143, R187, R192). -/
def openSlot (s : State) : State :=
  let lines := nextDrives s
  let faults := { s.faults with attention := nextAttention s.faults }
  let port := { s.port with take := nextTake s, responsePath := [] }
  let loader :=
    { s.loader with
      serialOut := nextSerial s.membership.state (s.slot + 1)
      serialClock := decide (s.membership.state = .loading) }
  let s := ((s.withLines lines).withFaults faults).withPort port
  let s := (s.withLoader loader).withQueue (s.queue.map Entry.nextSlot)
  let s := s.withDataUnit { s.dataUnit with driving := none }
  (s.withWork SlotWork.fresh).withSlot (s.slot + 1)

/-- The end of a slot. While hard reset is held the station's slot count stands, and the channel memory alone moves on. -/
def endSlot (s : State) : State :=
  match s.membership.state with
  | .off => (s.withMemory (s.memory.endSlot s.work.peerBurst)).withWork SlotWork.fresh
  | _ =>
    let s := finishSlot s
    openSlot (s.withMemory (s.memory.endSlot (drivenSlot s)))

/-- A step that a slot takes once closes the slot in which it has been taken already (notes/assumptions/3.md). -/
def beforeOnce (taken : Bool) (s : State) : State := if taken then endSlot s else s

/-- A number of slots that pass. -/
def passSlots : Nat → State → State
  | 0, s => s
  | n + 1, s => passSlots n (endSlot s)

end Sys2Proof.Machine
end

