-- ==== Sys2Proof/Machine/LaneSteps.lean ====
section
/-! DEFINITION. The meanings of the steps of reset, loading and the lane: the first rows of the opcode table, one definition
a row, over the shared operations. -/

namespace Sys2Proof.Machine

/-- What every step's meaning answers. -/
abbrev Outcome := Host.Outcome State Fault Refusal

/-! ### Reset and loading -/

/-- HARD_RESET: every block at its reset values (R27, R37, R89, R142, R144, R162, R172, R186, R187, R191, R192). It does not
reach the channel memory (R12), what another station drives on the data lines in the slot (R5, R19), nor the steps that wait. -/
def execHardReset (s : State) : Outcome :=
  .next (((State.reset.withPending s.pending).withMemory s.memory).withWork
    { SlotWork.fresh with peerBurst := s.work.peerBurst })

/-- The first slot after release (R1, R25, R26, R37, R40). -/
def releaseReset (straps : StationNo) (presence : StationSet) (s : State) : State :=
  let loader := { s.loader with straps := some straps, selected := true, serialOut := serialBit 0, serialClock := true }
  let membership := { s.membership with state := .loading, roster := presence }
  ((s.withSlot 0).withLoader loader).withMembership membership

/-- RESET_RELEASE: from OFF alone. -/
def execResetRelease (straps : StationNo) (presence : StationSet) (s : State) : Outcome :=
  match s.membership.state with
  | .off => .next (releaseReset straps presence s)
  | _ => .next s

/-- START_RECORD_READ_COMPLETE: in LOADING alone. The last bit arrives in the 720th slot of the read; a step that comes sooner
brings the bits that the slots up to then will shift in, and those slots pass (R26, notes/assumptions/8.md). -/
def execStartRecordReadComplete (bits : SerialRecord) (s : State) : Outcome :=
  match s.membership.state with
  | .loading => .next (completeRead (recordOfBits bits) (passSlots (Config.recordReadSlots - 1 - s.slot) s))
  | _ => .next s

/-! ### The claim and its read-back -/

/-- CLAIM_PHASE (R133): once a slot, before the events of its end. -/
def execClaimPhase (peers : ClaimBits) (s : State) : Outcome :=
  .next (claimPhase peers (beforeOnce (s.work.claimTaken || s.work.ended) s))

/-- COMMAND_READ_BACK (R4): of a command phase won in this slot, before the events of the slot's end. Where no claim phase has been
taken the station is the one claimant (notes/assumptions/4.md). After an event of the slot's end it brings the word of a
read-back that was taken to be equal (notes/assumptions/45.md). -/
def execCommandReadBack (sampled : LaneBits) (s : State) : Outcome :=
  if s.work.ended then .next (lateReadBack sampled s) else .next (readBack sampled (defaultClaim s))

/-! ### The observed commands -/

/-- The slot's command phase has been observed, or has been read back as something else. -/
def observedElsewhere (o : Observed) (s : State) : Bool :=
  s.work.observed.isSome ||
    match s.work.readBack with
    | none => false
    | some w => decide (decodeCommand w ≠ o)

/-- A sent claim has won the command phase, and its read-back was taken to be equal. -/
def readBackOpen (s : State) : Bool := s.work.presumed && !s.work.claimPresumed && s.work.observed.isNone

/-- A slot whose command phase has been observed, or read back as something else, is closed first (notes/assumptions/3.md). Where the
read-back was only taken to be equal, the word observed is the word sampled (R4, notes/assumptions/45.md). -/
def meetWord (w : LaneBits) (o : Observed) (s : State) : State :=
  if observedElsewhere o s then (if readBackOpen s then lateReadBack w s else endSlot s) else s

/-- The observation of a word and what it decodes to: once a slot. A winner that has not read back its command phase reads
back this word first (R4). -/
def observeWord (w : LaneBits) (o : Observed) (s : State) : State := observe o (reachObservation w (meetWord w o s))

/-- The observation of a command from an issuer. A read-back taken from it compares the word with its zero fields as 0: DESIGN
CHOICE (notes/assumptions/32.md). -/
def observeCommand (issuer : StationNo) (c : LaneCommand) (s : State) : State :=
  observeWord (encodeCommand issuer c) (.command issuer c) s

/-- OPEN_COMMAND (R67). -/
def execOpenCommand (issuer : StationNo) (check : CheckValue) (bank : BankNo) (row : RowNo) (s : State) : Outcome :=
  .next (observeCommand issuer (.openRow check bank row) s)

/-- CLOSE_COMMAND (R68). -/
def execCloseCommand (issuer : StationNo) (check : CheckValue) (bank : BankNo) (s : State) : Outcome :=
  .next (observeCommand issuer (.close check bank) s)

/-- READ_COMMAND (R69). -/
def execReadCommand (issuer : StationNo) (check : CheckValue) (bank : BankNo) (column : ColumnNo) (bursts : BurstCount)
    (s : State) : Outcome :=
  .next (observeCommand issuer (.read check bank column bursts) s)

/-- WRITE_COMMAND (R69, R163, R166, R172, R182). -/
def execWriteCommand (issuer : StationNo) (check : CheckValue) (bank : BankNo) (column : ColumnNo) (bursts : BurstCount)
    (s : State) : Outcome :=
  .next (observeCommand issuer (.write check bank column bursts) s)

/-- CLOSE_ALL_COMMAND (R70, R74). -/
def execCloseAllCommand (issuer : StationNo) (check : CheckValue) (purpose : Purpose) (digest : Digest) (s : State) :
    Outcome :=
  .next (observeCommand issuer (.closeAll check purpose digest) s)

/-- REFRESH_COMMAND (R72, R147, R148). -/
def execRefreshCommand (issuer : StationNo) (check : CheckValue) (s : State) : Outcome :=
  .next (observeCommand issuer (.refresh check) s)

/-- SLEEP_COMMAND (R72, R147). -/
def execSleepCommand (issuer : StationNo) (check : CheckValue) (s : State) : Outcome :=
  .next (observeCommand issuer (.sleep check) s)

/-- WAKE_COMMAND (R72, R74, R147). -/
def execWakeCommand (issuer : StationNo) (digest : Digest) (s : State) : Outcome :=
  .next (observeCommand issuer (.wake digest) s)

/-- MODE_SET_COMMAND (R73). -/
def execModeSetCommand (issuer : StationNo) (item : BitVec 2) (value : BitVec 4) (s : State) : Outcome :=
  .next (observeCommand issuer (.modeSet item value) s)

/-- The word of an undefined command, the fields below its issuer 0. -/
def undefinedWord (kind : BitVec 4) (issuer : StationNo) : LaneBits := (kind ++ issuer ++ 0#41).cast rfl

/-- UNDEFINED_COMMAND (R194). -/
def execUndefinedCommand (kind : BitVec 4) (issuer : StationNo) (s : State) : Outcome :=
  .next (observeWord (undefinedWord kind issuer) (.undefined issuer) s)

/-- EMPTY_SLOT (R140). -/
def execEmptySlot (s : State) : Outcome := .next (observeWord 0 .empty s)

end Sys2Proof.Machine
end

