-- ==== Sys2Proof/Machine/EventSteps.lean ====
section
/-! DEFINITION. The meanings of the alerts, the line samples, the expiries and the data steps, one definition a row, over
the shared operations. -/

namespace Sys2Proof.Machine

/-- A step of the slot's end that has an occasion of its own: it is taken where that has come, and otherwise leaves the state as
it is (notes/assumptions/2.md). -/
def whenDue (due : State → Bool) (act : State → State) (s : State) : Outcome :=
  if due (reachEnd s) then .next (act (reachEnd s)) else .next s

/-! ### Alerts -/

/-- COMMAND_ERROR_ALERT (R78): once a slot. -/
def execCommandErrorAlert (s : State) : Outcome :=
  .next (commandErrorAlert (reachEnd (beforeOnce s.work.commandAlert s)))

/-- WRITE_CHECK_ALERT (R179): once a slot. -/
def execWriteCheckAlert (s : State) : Outcome := .next (writeCheckAlert (reachEnd (beforeOnce s.work.writeAlert s)))

/-! ### The lines (R7, R40, R45, R50, R71, R72) -/

/-- A station samples the lines in every state but OFF. -/
def samplesLines (s : State) : Bool := decide (s.membership.state ≠ .off)

/-- The station samples a rise of a presence line: of a station that the roster does not hold. -/
def riseDue (n : StationNo) (s : State) : Bool := samplesLines s && !inRoster s.membership.roster n

/-- The station samples a fall of a presence line: of a station that the roster holds. -/
def fallDue (n : StationNo) (s : State) : Bool := samplesLines s && inRoster s.membership.roster n

/-- PRESENCE_RISE (R40). -/
def execPresenceRise (n : StationNo) (s : State) : Outcome := whenDue (riseDue n) (takeRise n) s

/-- PRESENCE_FALL (R40). -/
def execPresenceFall (n : StationNo) (s : State) : Outcome := whenDue (fallDue n) (takeFall n) s

/-- READY_LINE_CHANGE (R7, R45, R50, R72). -/
def execReadyLineChange (high : Bool) (s : State) : Outcome := whenDue samplesLines (takeReady high) s

/-- QUIET_LINE_CHANGE (R7, R71). -/
def execQuietLineChange (high : Bool) (s : State) : Outcome := whenDue samplesLines (takeQuiet high) s

/-! ### Expiries -/

/-- LISTEN_WAIT_EXPIRY (R47): when it is due. -/
def execListenWaitExpiry (s : State) : Outcome := whenDue listenWaitDue enterInitializing s

/-- PERIOD_EXPIRY (R146): when it is due. -/
def execPeriodExpiry (s : State) : Outcome := whenDue periodDue expirePeriod s

/-- The idle count reaches IDLE_WAIT in the slot in hand (R155, R156). -/
def idleDue (s : State) : Bool := idleRises s && decide (s.settings.idleWait ≤ s.controller.idleCount + 1)

/-- IDLE_WAIT_EXPIRY (R156): when it is due. -/
def execIdleWaitExpiry (s : State) : Outcome := whenDue idleDue (fun s => recastVote (countIdle s)) s

/-- ALERT_WINDOW_EXPIRY (R177): when an entry's window expires. -/
def execAlertWindowExpiry (s : State) : Outcome := whenDue windowDue (fun s => retireDone false (expireWindows s)) s

/-- FENCE_LIMIT_EXPIRY (R184): when the limit slot is reached. -/
def execFenceLimitExpiry (s : State) : Outcome := .next (expireFence s)

/-! ### Data (R174, R176) -/

/-- A burst on the data lines that this station does not drive, which the channel memory receives at the slot's end where the slot
is a data slot of a WRITE command (R5, R19). -/
def noteLines (d : DataSlot) (s : State) : State := s.withWork { s.work with peerBurst := some d }

/-- What the lines carry in the slot in hand: it is captured in a data slot of this station's own READ command (R174), and is
there for the channel memory in every slot (R5). -/
def takeLines (d : DataSlot) (s : State) : State :=
  if (captureOf (reachEnd s)).isSome then captureBurst d.data d.check (noteLines d (reachEnd s)) else noteLines d s

/-- READ_BURST_CAPTURE (R174): once a slot. -/
def execReadBurstCapture (lines : DataLines) (check : Byte) (s : State) : Outcome :=
  .next (takeLines ⟨lines.data, lines.mask, check⟩ (beforeOnce (s.work.captured || s.work.peerBurst.isSome) s))

/-- WRITE_BURST_DRIVE (R176): in a data slot of this station's own WRITE command. -/
def execWriteBurstDrive (s : State) : Outcome := .next (driveBurst s)

/-! ### Ends of a drain and of a leave (R55, R57) -/

/-- DRAIN_COMPLETE (R57): when no issued entry remains. -/
def execDrainComplete (s : State) : Outcome := whenDue drainDue endDrain s

/-- DETACH (R55): when a LEAVING station's queue is empty. -/
def execDetach (s : State) : Outcome := whenDue detachDue enterDetached s

end Sys2Proof.Machine
end

