-- ==== Sys2Proof/Machine/PortSteps.lean ====
section
/-! DEFINITION. The meanings of the client port's steps (chapters 5 and 11), one definition a row, over the shared
operations. -/

namespace Sys2Proof.Machine

/-! ### Words and answers (R186, R188) -/

/-- The station takes a word in the slot in hand: its take line is high and the path's eight positions are not used up
(R186). -/
def takesWord (s : State) : Bool := s.port.take && decide (s.work.positions < Config.portWidth)

/-- A word taken: one position of the request path is used. -/
def usePosition (s : State) : State := s.withWork { s.work with positions := s.work.positions + 1, ended := true }

/-- A header taken: a request that still lacks data words is discarded (R186). -/
def takeHeader (s : State) : State := (usePosition s).withPort { s.port with inProgress := none }

/-- A response made in the slot in hand (R188). -/
def respond (r : Response) (s : State) : State := s.withPort { s.port with joining := s.port.joining ++ [.made r] }

/-- A refused request's response (R92, R196). -/
def refuseWith (reason : RefusalReason) (kind : BitVec 4) (tag : Tag) (thread : Thread) (s : State) : State :=
  respond { kind := .refused reason, requestKind := kind, tag := tag, thread := thread, data := [] } s

/-- A station request answered OK (R42, R157, R190). -/
def answerOk (kind : BitVec 4) (tag : Tag) (s : State) : State :=
  respond { kind := .retired .ok, requestKind := kind, tag := tag, thread := 0, data := [] } s

/-- A step of the request path, which acts at the slot's end: nothing is taken while take is low (R186). -/
def portStep (f : State → State) (s : State) : Outcome :=
  if takesWord s then .next (f (takeHeader (reachEnd s))) else .next s

/-! ### Memory requests (R90 to R93) -/

/-- An accepted request joins the young end of the queue, and the vote is withdrawn (R91, R109, R156). -/
def joinQueue (e : Entry) (s : State) : State :=
  withdrawVote ((s.withQueue (s.queue ++ [e])).withPort { s.port with admitted := s.port.admitted + 1 })

/-- Why a memory request of a kind other than FENCE is refused, if it is (R90). -/
def memRefusal (kind : MemKind) (tag : Tag) (bursts : BurstCount) (address : Address) (s : State) :
    Option RefusalReason :=
  match commonRefusal s.membership.state s.queue tag with
  | some r => some r
  | none => addressRefusal s.settings.windows kind bursts address

/-- A memory request delivered (R90 to R92). -/
def deliver (kind : MemKind) (tag : Tag) (thread : Thread) (bursts : BurstCount) (urgent : Bool) (address : Address)
    (words : List PortWord) (s : State) : State :=
  match memRefusal kind tag bursts address s with
  | some r => refuseWith r (memKindCode kind) tag thread s
  | none => joinQueue (newEntry s kind tag thread bursts urgent address words) s

/-- A write request with the words taken so far: delivered once it has all of them, else in progress (R186). -/
def deliverWrite (p : PartialWrite) (s : State) : State :=
  if p.words.length < writeWords p.bursts then s.withPort { s.port with inProgress := some p }
  else
    deliver (if p.exclusive then .exclWrite else .write) p.tag p.thread p.bursts p.urgent p.address
      (p.words.take (writeWords p.bursts)) (s.withPort { s.port with inProgress := none })

/-- A data word taken: it goes to the request in progress, which is delivered with its last word, and is discarded when
there is none (R186). -/
def takeWord (word : PortWord) (s : State) : State :=
  match s.port.inProgress with
  | none => s
  | some p => deliverWrite { p with words := p.words ++ [word] } s

/-- A word without a start mark in the slot in hand: not taken while take is low (R186). -/
def takeData (word : PortWord) (s : State) : State :=
  if takesWord s then takeWord word (usePosition (reachEnd s)) else s

/-- The data words that follow a header, in the positions that its slot has left and in those of the slots after it, eight a
slot (R186, notes/assumptions/7.md). -/
def takeWords : List PortWord → State → State
  | [], s => s
  | w :: rest, s => takeWords rest (takeData w (beforeOnce (decide (Config.portWidth ≤ s.work.positions)) s))

/-- READ_REQUEST (R90). -/
def execReadRequest (tag : Tag) (thread : Thread) (bursts : BurstCount) (urgent : Bool) (address : Address) (s : State) :
    Outcome :=
  portStep (deliver .read tag thread bursts urgent address []) s

/-- WRITE_REQUEST (R90, R186). -/
def execWriteRequest (tag : Tag) (thread : Thread) (bursts : BurstCount) (urgent : Bool) (address : Address)
    (words : List PortWord) (s : State) : Outcome :=
  portStep (fun s => takeWords words (deliverWrite ⟨false, tag, thread, bursts, urgent, address, []⟩ s)) s

/-- EXCL_READ_REQUEST (R90). -/
def execExclReadRequest (tag : Tag) (thread : Thread) (bursts : BurstCount) (address : Address) (s : State) : Outcome :=
  portStep (deliver .exclRead tag thread bursts false address []) s

/-- EXCL_WRITE_REQUEST (R90, R186). -/
def execExclWriteRequest (tag : Tag) (thread : Thread) (bursts : BurstCount) (address : Address) (words : List PortWord)
    (s : State) : Outcome :=
  portStep (fun s => takeWords words (deliverWrite ⟨true, tag, thread, bursts, false, address, []⟩ s)) s

/-- A FENCE delivered (R90, R91). -/
def deliverFence (tag : Tag) (s : State) : State :=
  match commonRefusal s.membership.state s.queue tag with
  | some r => refuseWith r fenceCode tag 0 s
  | none => joinQueue (fenceEntry s tag) s

/-- FENCE (R90, R103). -/
def execFence (tag : Tag) (s : State) : Outcome := portStep (deliverFence tag) s

/-! ### Station requests (R41, R42, R157, R189, R190) -/

/-- A QUIET_PERMIT taken: refused in LOADING, else the permission takes the value (R157). One taken after the record is found good
in the last slot of LOADING finds the state that the record has left: DESIGN CHOICE (notes/assumptions/49.md). -/
def takePermit (tag : Tag) (value : Bool) (s : State) : State :=
  match s.membership.state with
  | .loading => refuseWith .badState 5 tag 0 s
  | _ => answerOk 5 tag (recastVote (s.withController { s.controller with permission := some value }))

/-- QUIET_PERMIT (R157). -/
def execQuietPermit (tag : Tag) (value : Bool) (s : State) : Outcome := portStep (takePermit tag value) s

/-- Entry to LEAVING (R53). -/
def enterLeaving (s : State) : State := withdrawVote (setState .leaving s)

/-- A LEAVE taken (R41, R53). -/
def takeLeave (tag : Tag) (s : State) : State :=
  match s.membership.state with
  | .member => answerOk 6 tag (enterLeaving s)
  | _ => refuseWith .badState 6 tag 0 s

/-- LEAVE (R53). -/
def execLeave (tag : Tag) (s : State) : Outcome := portStep (takeLeave tag) s

/-- A JOIN taken (R41, R60). -/
def takeJoin (tag : Tag) (s : State) : State :=
  match s.membership.state with
  | .detached => answerOk 7 tag (checkNumber s)
  | _ => refuseWith .badState 7 tag 0 s

/-- JOIN (R60). -/
def execJoin (tag : Tag) (s : State) : Outcome := portStep (takeJoin tag) s

/-- A RESTART taken (R41, R58, R59). One taken after the record is judged in the last slot of LOADING finds the state that the
record has left: DESIGN CHOICE (notes/assumptions/49.md). -/
def takeRestart (tag : Tag) (s : State) : State :=
  match s.membership.state with
  | .off => refuseWith .badState 8 tag 0 s
  | .loading => refuseWith .badState 8 tag 0 s
  | .draining => answerOk 8 tag (s.withMembership { s.membership with drainTarget := some .listening })
  | _ => answerOk 8 tag (enterDraining .listening s)

/-- RESTART (R58). -/
def execRestart (tag : Tag) (s : State) : Outcome := portStep (takeRestart tag) s

/-- REPORT (R189): its record is made at the slot's end. -/
def execReport (tag : Tag) (s : State) : Outcome :=
  portStep (fun s => s.withPort { s.port with joining := s.port.joining ++ [.report tag] }) s

/-- CLEAR (R190). -/
def execClear (tag : Tag) (s : State) : Outcome := portStep (fun s => answerOk 10 tag (s.withFaults s.faults.cleared)) s

/-- UNDEFINED_REQUEST_KIND (R188). -/
def execUndefinedRequestKind (kind : BitVec 4) (tag : Tag) (s : State) : Outcome :=
  portStep (refuseWith .range kind tag 0) s

/-! ### Words without a start mark, and the response path (R186, R187) -/

/-- STRAY_WORD_DISCARD (R186). -/
def execStrayWordDiscard (word : PortWord) (s : State) : Outcome := .next (takeData word s)

/-- The slot's words of the oldest response; it leaves the list with its last word (R187). -/
def sendWords (s : State) : State :=
  let s := s.withWork { s.work with responded := true }
  match s.port.responses with
  | [] => s
  | r :: rest =>
    let words := (responseWords r).drop s.port.sent
    let path := words.take Config.portWidth
    if words.length ≤ Config.portWidth then
      s.withPort { s.port with responsePath := path, responses := rest, sent := 0 }
    else s.withPort { s.port with responsePath := path, sent := s.port.sent + Config.portWidth }

/-- RESPONSE_SEND (R187): once a slot. -/
def execResponseSend (s : State) : Outcome := .next (sendWords (beforeOnce s.work.responded s))

end Sys2Proof.Machine
end

