-- ==== Sys2Proof/Machine/Dispatch.lean ====
section
/-! DEFINITION. The meaning of every step, by its constructor. -/

namespace Sys2Proof.Machine

def exec (i : Instr) (s : State) : Host.Outcome State Fault Refusal :=
  match i with
  | .hardReset => Sys2Proof.Machine.execHardReset s
  | .resetRelease straps presence => Sys2Proof.Machine.execResetRelease straps presence s
  | .startRecordReadComplete bits => Sys2Proof.Machine.execStartRecordReadComplete bits s
  | .claimPhase peers => Sys2Proof.Machine.execClaimPhase peers s
  | .commandReadBack sampled => Sys2Proof.Machine.execCommandReadBack sampled s
  | .openCommand issuer check bank row => Sys2Proof.Machine.execOpenCommand issuer check bank row s
  | .closeCommand issuer check bank => Sys2Proof.Machine.execCloseCommand issuer check bank s
  | .readCommand issuer check bank column bursts => Sys2Proof.Machine.execReadCommand issuer check bank column bursts s
  | .writeCommand issuer check bank column bursts => Sys2Proof.Machine.execWriteCommand issuer check bank column bursts s
  | .closeAllCommand issuer check purpose digest => Sys2Proof.Machine.execCloseAllCommand issuer check purpose digest s
  | .refreshCommand issuer check => Sys2Proof.Machine.execRefreshCommand issuer check s
  | .sleepCommand issuer check => Sys2Proof.Machine.execSleepCommand issuer check s
  | .wakeCommand issuer digest => Sys2Proof.Machine.execWakeCommand issuer digest s
  | .modeSetCommand issuer item value => Sys2Proof.Machine.execModeSetCommand issuer item value s
  | .undefinedCommand kind issuer => Sys2Proof.Machine.execUndefinedCommand kind issuer s
  | .emptySlot => Sys2Proof.Machine.execEmptySlot s
  | .commandErrorAlert => Sys2Proof.Machine.execCommandErrorAlert s
  | .writeCheckAlert => Sys2Proof.Machine.execWriteCheckAlert s
  | .presenceRise station => Sys2Proof.Machine.execPresenceRise station s
  | .presenceFall station => Sys2Proof.Machine.execPresenceFall station s
  | .readyLineChange high => Sys2Proof.Machine.execReadyLineChange high s
  | .quietLineChange high => Sys2Proof.Machine.execQuietLineChange high s
  | .listenWaitExpiry => Sys2Proof.Machine.execListenWaitExpiry s
  | .periodExpiry => Sys2Proof.Machine.execPeriodExpiry s
  | .idleWaitExpiry => Sys2Proof.Machine.execIdleWaitExpiry s
  | .readBurstCapture lines check => Sys2Proof.Machine.execReadBurstCapture lines check s
  | .writeBurstDrive => Sys2Proof.Machine.execWriteBurstDrive s
  | .alertWindowExpiry => Sys2Proof.Machine.execAlertWindowExpiry s
  | .fenceLimitExpiry => Sys2Proof.Machine.execFenceLimitExpiry s
  | .drainComplete => Sys2Proof.Machine.execDrainComplete s
  | .detach => Sys2Proof.Machine.execDetach s
  | .readRequest tag thread bursts urgent address => Sys2Proof.Machine.execReadRequest tag thread bursts urgent address s
  | .writeRequest tag thread bursts urgent address words => Sys2Proof.Machine.execWriteRequest tag thread bursts urgent address words s
  | .exclReadRequest tag thread bursts address => Sys2Proof.Machine.execExclReadRequest tag thread bursts address s
  | .exclWriteRequest tag thread bursts address words => Sys2Proof.Machine.execExclWriteRequest tag thread bursts address words s
  | .fence tag => Sys2Proof.Machine.execFence tag s
  | .quietPermit tag value => Sys2Proof.Machine.execQuietPermit tag value s
  | .leave tag => Sys2Proof.Machine.execLeave tag s
  | .join tag => Sys2Proof.Machine.execJoin tag s
  | .restart tag => Sys2Proof.Machine.execRestart tag s
  | .report tag => Sys2Proof.Machine.execReport tag s
  | .clear tag => Sys2Proof.Machine.execClear tag s
  | .undefinedRequestKind kind tag => Sys2Proof.Machine.execUndefinedRequestKind kind tag s
  | .strayWordDiscard word => Sys2Proof.Machine.execStrayWordDiscard word s
  | .responseSend => Sys2Proof.Machine.execResponseSend s

end Sys2Proof.Machine
end

