-- ==== Sys2Proof/Machine/Step.lean ====
section
/-! DEFINITION. One step of the machine: the step at the front of the queue of waiting steps, or the end of the slot when
none waits (notes/assumptions/1.md). -/

namespace Sys2Proof.Machine

/-- The step at the front of the queue, with the rest of the queue left to wait; on an empty queue the slot ends. -/
def step (s : State) : Host.Outcome State Fault Refusal :=
  match s.pending with
  | [] => .next (endSlot s)
  | c :: rest => exec c (s.withPending rest)

/-- The state with the step that a word spells at the front of its queue, and the state as it was where the word spells none
(notes/assumptions/34.md). -/
def State.withFetchWord (s : State) (nbits w : Nat) : State :=
  match decodeTableWord nbits w with
  | none => s
  | some c => s.withPending (c :: s.pending)

end Sys2Proof.Machine
end

