-- ==== Sys2Proof/Safety.lean ====
section
/-! DEFINITION. What a good state of the machine is: the limits the manual puts on its lists, and the pairings of station
state and block state that the chapters promise. The statements of the row are made in these terms. -/

namespace Sys2Proof.Machine

/-! ### Limits (R87, R146, R162, R187) -/

/-- The tags of the queue, in order. -/
def queueTags (s : State) : List Tag := s.queue.map Entry.tag

/-- The threads that hold reservations. -/
def reservedThreads (s : State) : List Thread := s.table.reservations.map Reservation.thread

/-- An entry's age is within AGE_MAX and its guard count within GUARD (R121). -/
def EntryWithin (c : Settings) (e : Entry) : Prop :=
  ∀ m, e.mem = some m → m.age ≤ c.ageMax ∧ m.guardCount ≤ c.guardMax

/-- At most 16 entries, no two of one tag (R87), each within its ageing limits (R121), and none before the record is judged
(R89); at most six reservations, no two of one thread (R162); debt within 0..7 (R146). -/
def WithinLimits (s : State) : Prop :=
  s.queue.length ≤ 16 ∧ (queueTags s).Nodup ∧ (∀ e ∈ s.queue, EntryWithin s.settings e) ∧
    (s.membership.state = .off ∨ s.membership.state = .loading → s.queue = []) ∧
    s.table.reservations.length ≤ 6 ∧ (reservedThreads s).Nodup ∧ s.controller.debt ≤ 7

/-- Responses made and not yet sent, with those of the slot in hand, and the entries that will still make one (R187). -/
def owedResponses (s : State) : Nat := s.port.responses.length + s.port.joining.length + s.queue.length

/-- The response list has room for every response (R187): at most 64 are owed, and a slot in which words are taken has room
for one more for each position still free. -/
def ResponseRoom (s : State) : Prop :=
  s.queue.length ≤ 16 ∧ owedResponses s ≤ 64 ∧ (s.membership.state = .off → s.port.take = false) ∧
    (s.port.take = true → owedResponses s ≤ 56 + s.work.positions)

/-! ### The channel memory -/

/-- The contents are in their canonical form. -/
def Memory.wf (s : State) : Prop := contentsOk s.memory.contents = true

/-! ### Station state and block state -/

/-- A state that the station is in as long as it keeps a configuration and kept fields (R65). -/
def arrivedState : StationState → Bool
  | .listening => true
  | .initializing => true
  | .member => true
  | .resync => true
  | .leaving => true
  | .detached => true
  | .off => false
  | .loading => false
  | .draining => false
  | .withdrawn => false

/-- A state in which the mirror is doubted whatever is observed (R65, R74). -/
def doubtedState : StationState → Bool
  | .off => true
  | .loading => true
  | .resync => true
  | .draining => true
  | .detached => true
  | .withdrawn => true
  | .listening => false
  | .initializing => false
  | .member => false
  | .leaving => false

/-- The initialization steps that are judged by a known mirror (R48). -/
def refreshStep : Option InitStep → Bool
  | some .firstRefresh => true
  | some .secondRefresh => true
  | some .setReadLatency => false
  | some .setWriteLatency => false
  | some .setCheckEnable => false
  | some .setAlertEnable => false
  | some .closeAll => false
  | none => false

/-- The fields of the Membership Controller that one state alone has are absent in the others (R37). -/
def StateFields (s : State) : Prop :=
  (s.membership.initStep.isSome = true ↔ s.membership.state = .initializing) ∧
    (s.membership.drainTarget.isSome = true ↔ s.membership.state = .draining) ∧
    (s.membership.leaveDoubt = true → s.membership.state = .leaving)

/-- A record that passes its tests has brought the kept fields with it (R33, R65). -/
def RecordKept (s : State) : Prop :=
  ∀ r, s.loader.record = some r → judgeRecord r = none → s.mirror.kept.isSome = true

/-- The mirror is known where the manual says so and doubted where it says so (R51, R54, R65, R74). -/
def MirrorTrust (s : State) : Prop :=
  StateFields s ∧ RecordKept s ∧ (arrivedState s.membership.state = true → s.mirror.kept.isSome = true) ∧
    (s.membership.state = .member → s.mirror.known.isSome = true) ∧
    (s.membership.state = .leaving → (s.mirror.known.isSome = true ↔ s.membership.leaveDoubt = false)) ∧
    (refreshStep s.membership.initStep = true → s.mirror.known.isSome = true) ∧
    (doubtedState s.membership.state = true → s.mirror.known = none)

/-- A state whose queue is empty (R89, R108). -/
def emptyQueueState : StationState → Bool
  | .off => true
  | .loading => true
  | .detached => true
  | .withdrawn => true
  | .listening => false
  | .initializing => false
  | .member => false
  | .resync => false
  | .leaving => false
  | .draining => false

/-- The blocks hold things in the states that let them: entries (R89, R108), a write fence (R83, R185), a cast vote
(R156), the duty pointer (R148), and a quiet hold only while the quiet line is sampled high (R71). -/
def HeldByState (s : State) : Prop :=
  (emptyQueueState s.membership.state = true → s.queue = []) ∧
    (s.mirror.fence.isSome = true → holdsFence s.membership.state = true) ∧
    (s.controller.vote = true →
      s.membership.state = .member ∧ s.queue = [] ∧ s.controller.permission = some true) ∧
    (s.controller.duty.isSome = true → keepsDuty s.membership.state = true) ∧
    (∀ m, s.mirror.known = some m → m.quietHold = true → s.lines.quietSample = true)

/-! ### The terms of the statements -/

/-- The command phase of the slot in hand may be observed as `o`: it has not been observed, the slot's end has begun, so that the
claim phase is over and a phase won in it is read back (R1, R138), and a station that has read back reads `o`. -/
def ReadyToObserve (o : Observed) (s : State) : Prop :=
  s.work.observed = none ∧ s.work.ended = true ∧ ∀ w, s.work.readBack = some w → decodeCommand w = o

/-- No write fence and no last alerted write has reached its limit slot. -/
def NothingExpires (s : State) : Prop :=
  (∀ f, s.mirror.fence = some f → s.slot < f.limit) ∧ (∀ w, s.dataUnit.lastAlerted = some w → s.slot < w.limit)

/-- Every entry is of a memory kind, and none is answered: nothing retires of its own accord. -/
def QueueOpen (s : State) : Prop := ∀ e ∈ s.queue, e.phase.answered = none ∧ e.mem.isSome = true

/-- The Selector has judged no entry in the slot in hand: nothing ages. -/
def QueueUnjudged (s : State) : Prop := ∀ e ∈ s.queue, ∀ m, e.mem = some m → m.judged = none

/-- The slot's other events leave the queue, the client port, the fence and the records alone: no entry retires or ages, and
no alert has been attributed in the slot. -/
def Calm (s : State) : Prop := QueueOpen s ∧ QueueUnjudged s ∧ s.work.attributed = none

/-- What no observed command changes: the waiting steps, the slot count, the line samples and drives, and the loader. -/
def OuterKept (s t : State) : Prop :=
  t.pending = s.pending ∧ t.slot = s.slot ∧ t.lines = s.lines ∧ t.loader = s.loader

/-- What the observation of a command leaves alone in a calm slot. -/
def InnerKept (s t : State) : Prop :=
  t.queue = s.queue ∧ t.port = s.port ∧ t.counters = s.counters ∧ t.faults = s.faults ∧ t.mirror.fence = s.mirror.fence

/-- The membership after a command that only ends a silence: a LISTENING station's silence count is 0 (R47). -/
def silenced (m : Membership) : Membership :=
  match m.state with
  | .listening => { m with silence := 0 }
  | _ => m

/-- The channel state of a known mirror after the ready line's sample (R72). -/
def sampledChannel (s : State) (m : KnownMirror) : ChannelState :=
  if m.channel = .initializing ∧ s.lines.readySample = true then .running else m.channel

/-- An observed command serves an entry's: it opens that bank at that row, or closes that bank (R120). -/
def Served (c : LaneCommand) (command : LaneCommand) : Prop :=
  (∃ x y bank row, command = .openRow x bank row ∧ c = .openRow y bank row) ∨
    (∃ x y bank, command = .close x bank ∧ c = .close y bank) ∨
    ∃ x bank y p d, command = .close x bank ∧ c = .closeAll y p d

/-- The ageing step of an entry (R121): the guard count first, where the age already stands at AGE_MAX, with promotion when it
reaches GUARD, and then the age; every other field stays. -/
def Aged (c : Settings) (m m' : MemFields) : Prop :=
  m' = { m with age := m'.age, guardCount := m'.guardCount, cls := m'.cls } ∧
    m'.age = min (m.age + c.ageStep) c.ageMax ∧
    (m.age < c.ageMax → m'.guardCount = m.guardCount ∧ m'.cls = m.cls) ∧
    (m.age = c.ageMax → m.guardCount < c.guardMax → m'.guardCount = m.guardCount + 1) ∧
    (m.age = c.ageMax → m.guardCount = c.guardMax → m'.guardCount = m.guardCount) ∧
    (m.age = c.ageMax → m'.guardCount = c.guardMax → m'.cls = .priority) ∧
    (m'.guardCount ≠ c.guardMax → m'.cls = m.cls)

/-- A fault is recorded in a fault record (R191). -/
def FaultNoted (k : FaultKind) (detail : Byte) (before after : FaultRecord) : Prop :=
  after.kinds = before.kinds ||| k.bit ∧ after.first = some (before.first.getD (k, detail)) ∧
    after.attention = before.attention

/-- The take line is high and a position of the request path is free (R186). -/
def PortOpen (s : State) : Prop := s.port.take = true ∧ s.work.positions < 8

/-- The same in a slot whose end has begun: what comes before it is over (EqualReadBackIssues says what that is). -/
def PortReady (s : State) : Prop := PortOpen s ∧ s.work.ended = true

/-- A step that acts at the end of a slot has its occasion in a state. -/
def ActsAtEnd (c : Instr) (s : State) : Prop :=
  match c with
  | .commandErrorAlert => s.work.commandAlert = false
  | .writeCheckAlert => s.work.writeAlert = false
  | .presenceRise n => riseDue n s = true
  | .presenceFall n => fallDue n s = true
  | .readyLineChange _ | .quietLineChange _ => s.membership.state ≠ .off
  | .listenWaitExpiry => listenWaitDue s = true
  | .periodExpiry => periodDue s = true
  | .idleWaitExpiry => idleDue s = true
  | .readBurstCapture .. => s.work.captured = false ∧ s.work.peerBurst = none ∧ (captureOf s).isSome = true
  | .alertWindowExpiry => windowDue s = true
  | .drainComplete => drainDue s = true
  | .detach => detachDue s = true
  | .readRequest .. | .writeRequest .. | .exclReadRequest .. | .exclWriteRequest .. | .fence .. | .quietPermit .. => PortOpen s
  | .leave .. | .join .. | .restart .. | .report .. | .clear .. | .undefinedRequestKind .. | .strayWordDiscard .. => PortOpen s
  | .hardReset | .resetRelease .. | .startRecordReadComplete .. | .claimPhase .. | .commandReadBack .. => False
  | .openCommand .. | .closeCommand .. | .readCommand .. | .writeCommand .. | .closeAllCommand .. => False
  | .refreshCommand .. | .sleepCommand .. | .wakeCommand .. | .modeSetCommand .. | .undefinedCommand .. | .emptySlot => False
  | .writeBurstDrive | .fenceLimitExpiry | .responseSend => False

/-- The station with a request's word taken: one more position used, the slot's end begun, no request in progress (R186). -/
def wordTaken (s : State) : State :=
  (s.withWork { s.work with positions := s.work.positions + 1, ended := true }).withPort { s.port with inProgress := none }

/-- The station with a response made at the end of what the slot has made. -/
def withResponse (r : Response) (s : State) : State :=
  s.withPort { s.port with joining := s.port.joining ++ [.made r] }

/-- The step of a memory request other than FENCE, by its kind; only a READ and a WRITE carry an urgent field, and only the
write kinds bring data words (R196). -/
def memRequest (kind : MemKind) (tag : Tag) (thread : Thread) (bursts : BurstCount) (urgent : Bool) (address : Address)
    (words : List PortWord) : Instr :=
  match kind with
  | .read => .readRequest tag thread bursts urgent address
  | .write => .writeRequest tag thread bursts urgent address words
  | .exclRead => .exclReadRequest tag thread bursts address
  | .exclWrite => .exclWriteRequest tag thread bursts address words

/-- The states that put a memory request to the later checks (R41). -/
def Admitting (st : StationState) : Prop :=
  st = .listening ∨ st = .initializing ∨ st = .member ∨ st = .resync

/-- The range check passes (R90): 1 to 4 bursts in one row, and exactly 1 for an exclusive kind. -/
def RangeOk (kind : MemKind) (bursts : BurstCount) (address : Address) : Prop :=
  1 ≤ bursts.toNat ∧ bursts.toNat ≤ 4 ∧ (address.extractLsb' 6 5).toNat + bursts.toNat ≤ 32 ∧
    (kind = .exclRead ∨ kind = .exclWrite → bursts.toNat = 1)

/-- The entry that the manual gives an accepted memory request (R91): its class by R115, and its write data for a write kind. -/
def acceptedEntry (s : State) (kind : MemKind) (tag : Tag) (thread : Thread) (bursts : BurstCount) (urgent : Bool)
    (address : Address) (words : List PortWord) : Entry :=
  { tag := tag
    phase := .waiting
    mem :=
      some
        { kind := kind
          thread := thread
          bank := address.extractLsb' 11 4
          row := address.extractLsb' 15 15
          column := address.extractLsb' 6 5
          bursts := bursts
          writeData := if kind = .write ∨ kind = .exclWrite then writeBursts words else []
          captured := []
          captureFailed := false
          cls :=
            if s.settings.priorityPermit = true ∧ urgent = true ∧ (kind = .read ∨ kind = .write) then .priority
            else .ordinary
          age := 0
          guardCount := 0
          retryUsed := false
          issueSlot := none
          retrySlot := none
          judged := none }
    joined := s.slot
    order := s.port.admitted }

/-- One used window covers the request's granules with the rights its kind needs (R35). -/
def WindowOk (windows : List Window) (kind : MemKind) (bursts : BurstCount) (address : Address) : Prop :=
  ∃ w ∈ windows, w.base ≤ address.toNat / 64 ∧ address.toNat / 64 + bursts.toNat - 1 ≤ w.limit ∧
    (kind ≠ .write → w.rights &&& 1 = 1) ∧ (kind ≠ .read → w.rights &&& 2 = 2)

/-- Every check of R90 passes. -/
def Accepted (s : State) (kind : MemKind) (tag : Tag) (bursts : BurstCount) (address : Address) : Prop :=
  Admitting s.membership.state ∧ tag ∉ queueTags s ∧ s.queue.length < 16 ∧ address.extractLsb' 0 6 = 0 ∧
    RangeOk kind bursts address ∧ WindowOk s.settings.windows kind bursts address

/-- The first check of R90 that applies to every kind and fails, with its reason (R41). -/
def RefusedFirst (s : State) (tag : Tag) (r : RefusalReason) : Prop :=
  (s.membership.state = .off ∨ s.membership.state = .loading) ∧ r = .starting ∨
    (s.membership.state = .leaving ∨ s.membership.state = .draining ∨ s.membership.state = .detached ∨
      s.membership.state = .withdrawn) ∧ r = .notMember ∨
    Admitting s.membership.state ∧ (tag ∈ queueTags s ∧ r = .tagInUse ∨ tag ∉ queueTags s ∧ 16 ≤ s.queue.length ∧ r = .full)

/-- The first failing check of R90 of a memory request other than FENCE, with its reason. -/
def Refused (s : State) (kind : MemKind) (tag : Tag) (bursts : BurstCount) (address : Address) (r : RefusalReason) : Prop :=
  RefusedFirst s tag r ∨
    Admitting s.membership.state ∧ tag ∉ queueTags s ∧ s.queue.length < 16 ∧
      (address.extractLsb' 0 6 ≠ 0 ∧ r = .align ∨
        address.extractLsb' 0 6 = 0 ∧
          (¬RangeOk kind bursts address ∧ r = .range ∨
            RangeOk kind bursts address ∧ ¬WindowOk s.settings.windows kind bursts address ∧ r = .access))

/-- The kind of a write request in progress. -/
def PartialWrite.kind (p : PartialWrite) : MemKind := if p.exclusive then .exclWrite else .write

/-- The response of an entry answered ABORTED (R98, R196). -/
def abortedResponse (e : Entry) : Response :=
  { kind := .retired .aborted
    requestKind := match e.mem with
      | none => 4
      | some m => memKindCode m.kind
    tag := e.tag
    thread := match e.mem with
      | none => 0
      | some m => m.thread
    data := [] }

/-- The responses of a slot after every entry of a queue has been answered ABORTED, in arrival order (R56, R188). -/
def abortedAnswers (q : List Entry) (js : List Joining) : List Joining :=
  q.foldl (fun js e => joinRetired e.order (abortedResponse e) js) js

/-- What a request's word leaves alone: everything but the slot's work, the queue, the port and the controller. -/
def PortKept (s t : State) : Prop :=
  t = (((s.withWork t.work).withQueue t.queue).withPort t.port).withController t.controller ∧
    t.work = { s.work with positions := s.work.positions + 1, ended := true }

/-- The claim lines as a station finds them, driven by the others: bit b of the result is 1 when another one of the
stations drives a 1 in bit b (R3). -/
def drivenByOthers (n : Nat) (driven : Fin n → ClaimBits) (i : Fin n) : ClaimBits :=
  (List.finRange n).foldl (fun lines j => if j = i then lines else lines ||| driven j) 0

/-- The claim lines as every station samples them: bit b is 1 when some station drives a 1 in bit b (R3). -/
def sampledClaim (n : Nat) (driven : Fin n → ClaimBits) : ClaimBits :=
  (List.finRange n).foldl (fun lines j => lines ||| driven j) 0

/-- The account as the entry to MEMBER from LISTENING or INITIALIZING starts it: debt and period count 0, and the timer counting
unless the channel reads SLEEPING, which the slot's end decides (R145). -/
def AccountStarted (t : State) : Prop :=
  t.controller.active = true ∧ t.controller.debt = 0 ∧ t.controller.periodCount = 0 ∧ t.work.accountStarted = true ∧
    (t.controller.counting = true ↔ ∀ m, t.mirror.known = some m → m.channel ≠ .sleeping)

/-- The words 1 to 22 of the start record with the range of each (section 2.3). -/
def recordRanges : List (Nat × Nat × Nat) :=
  [(1, 2, 15), (2, 4, 63), (3, 2, 15), (4, 2, 15), (5, 2, 15), (6, 1, 15), (7, 1, 7), (8, 1, 7), (9, 1, 15), (10, 6, 31),
    (11, 6, 63)] ++
  [(12, 8, 255), (13, 256, 65535), (14, 8, 255), (15, 16, 65535), (16, 64, 65535), (17, 1, 7), (18, 0, 31), (19, 0, 15),
    (20, 0, 1), (21, 0, 1), (22, 1, 4)]

/-- The fields of the words below one are in their ranges (R30). -/
def FieldsInRange (r : Record) (below : Nat) : Prop :=
  ∀ k low high, (k, low, high) ∈ recordRanges → k < below → low ≤ recordField r k ∧ recordField r k ≤ high

/-- The base of a window of the record, high word first (R28). -/
def windowBase (r : Record) (n : Nat) : Nat := recordField r (23 + 5 * n) * 65536 + recordField r (24 + 5 * n)

/-- The limit of a window of the record, high word first (R28). -/
def windowLimit (r : Record) (n : Nat) : Nat := recordField r (25 + 5 * n) * 65536 + recordField r (26 + 5 * n)

/-- A window's words are in their ranges (section 2.3, R28). -/
def WindowInRange (r : Record) (n : Nat) : Prop :=
  windowBase r n ≤ 16777215 ∧ windowLimit r n ≤ 16777215 ∧ 1 ≤ recordField r (27 + 5 * n) ∧ recordField r (27 + 5 * n) ≤ 3

end Sys2Proof.Machine
end

