-- ==== Sys2Proof/Certificates/Slice0/Obligations.lean ====
section
/-! DEFINITION. The statements of the row, one definition each, in the order of OBLIGATIONS.json. -/

section

open Sys2Proof Sys2Proof.Machine

/-! ### The queue of waiting steps and the slot -/

/-- The step at the front of the queue is run by `exec`, on the state with the queue's rest. -/
def Obligations.StepRunsFrontCommand : Prop :=
  ∀ (s : State) (c : Instr) (rest : List Instr), s.pending = c :: rest → step s = exec c (s.withPending rest)

/-- No step faults or is refused, whatever the state and the operands (notes/assumptions/2.md), and none touches the steps
that wait. -/
def Obligations.EveryCommandCompletes : Prop :=
  ∀ (c : Instr) (s : State), ∃ t, exec c s = .next t ∧ t.pending = s.pending

/-- With no step waiting, the slot of a station out of reset ends (the model's choice, notes/assumptions/1.md): the slot count
rises by 1 (R1), the drives follow the state that the slot leaves (R9), attention follows fault_set (R192), take follows the
response list (R187), every response made in the slot has joined the young end of the list in order, those made before its end
among them (R188), the memory drives the alerts due in the new slot (R8), and the
work of the new slot is fresh (R110, R143). -/
def Obligations.EmptyQueueEndsSlot : Prop :=
  ∀ s : State, s.pending = [] → s.membership.state ≠ .off →
    ∃ t, step s = .next t ∧ t.pending = [] ∧ t.slot = s.slot + 1 ∧ t.memory.now = s.memory.now + 1 ∧
      t.memory.alertLine =
        { writeCheck := t.memory.alertEnable && t.memory.writeAlerts.contains t.memory.now
          commandError := t.memory.alertEnable && t.memory.commandAlerts.contains t.memory.now } ∧
      t.work = SlotWork.fresh ∧ t.dataUnit.driving = none ∧ t.port.joining = [] ∧ t.port.responsePath = [] ∧
      t.port.responses = s.port.responses ++ (settleSlot s).port.joining.map (joinedResponse t) ∧
      s.port.joining.Sublist (settleSlot s).port.joining ∧
      (∀ e ∈ t.queue, ∀ m, e.mem = some m → m.judged = none) ∧
      t.faults.attention = decide (t.faults.kinds ≠ 0) ∧
      t.port.take = (decide (t.membership.state ≠ .off) && decide (t.port.responses.length ≤ 40)) ∧
      (t.membership.state ∈ [StationState.listening, .initializing, .member, .resync, .leaving] →
        t.lines.presence = true) ∧
      (t.membership.state ∈ [StationState.loading, .detached, .withdrawn] → t.lines.presence = false) ∧
      (t.membership.state = .draining → t.lines.presence = s.lines.presence) ∧
      (t.lines.ready = true ↔ t.membership.state ∈ [StationState.member, .resync, .leaving]) ∧
      (t.lines.quietReleased = true ↔
        t.membership.state ∈ [StationState.detached, .withdrawn] ∨
          (t.membership.state = .member ∧ t.controller.vote = true))

/-! ### Words -/

/-- Every lane command of every issuer is read from its word as it was written (R194), and a word's kind field decides what
else it can be: kind 0 is the empty command whatever its other bits, kinds 10 to 15 are undefined commands. -/
def Obligations.LaneCommandWordsRoundTrip : Prop :=
  (∀ (i : StationNo) (c : LaneCommand), decodeCommand (encodeCommand i c) = .command i c) ∧
    ∀ w : LaneBits,
      ((w.extractLsb' 44 4).toNat = 0 → decodeCommand w = .empty) ∧
      (10 ≤ (w.extractLsb' 44 4).toNat → decodeCommand w = .undefined (w.extractLsb' 41 3)) ∧
      (1 ≤ (w.extractLsb' 44 4).toNat → (w.extractLsb' 44 4).toNat ≤ 9 → ∃ c, decodeCommand w = .command (w.extractLsb' 41 3) c)

/-- Every request header is read from its word as it was written, and its kind code names its request (R196). -/
def Obligations.RequestHeadersRoundTrip : Prop :=
  (∀ h : RequestHeader, decodeHeader (encodeHeader h) = h) ∧
    ∀ (h : RequestHeader) (words : List PortWord),
      (h.kind = 0 → requestStep h words = .readRequest h.tag h.thread h.bursts h.urgent h.address) ∧
      (h.kind = 1 → requestStep h words = .writeRequest h.tag h.thread h.bursts h.urgent h.address words) ∧
      (h.kind = 2 → requestStep h words = .exclReadRequest h.tag h.thread h.bursts h.address) ∧
      (h.kind = 3 → requestStep h words = .exclWriteRequest h.tag h.thread h.bursts h.address words) ∧
      (h.kind = 4 → requestStep h words = .fence h.tag) ∧
      (h.kind = 5 → requestStep h words = .quietPermit h.tag h.quietValue) ∧
      (h.kind = 6 → requestStep h words = .leave h.tag) ∧ (h.kind = 7 → requestStep h words = .join h.tag) ∧
      (h.kind = 8 → requestStep h words = .restart h.tag) ∧ (h.kind = 9 → requestStep h words = .report h.tag) ∧
      (h.kind = 10 → requestStep h words = .clear h.tag) ∧
      (11 ≤ h.kind.toNat → requestStep h words = .undefinedRequestKind h.kind h.tag)

/-- The claim word is the class, the score and the station number, most significant first; words compare by class, then by
score, then by station number; and every claim a station makes carries a score from 4 to 63, so that no claim word is 0
(R128): an entry's with its age within AGE_MAX, which a good record holds at 31 or less (R30), and a maintenance
candidate's. -/
def Obligations.ClaimWordsCompareByField : Prop :=
  (ClaimClass.maintenance.code = 3 ∧ ClaimClass.priority.code = 2 ∧ ClaimClass.ordinary.code = 1 ∧
    ClaimClass.idle.code = 0) ∧
    (∀ (cls : ClaimClass) (score : Nat) (n : StationNo), score < 64 →
      (claimWord cls score n).toNat = cls.code.toNat * 512 + score * 8 + n.toNat) ∧
    (∀ (a b : ClaimClass) (x y : Nat) (m n : StationNo), x < 64 → y < 64 →
      ((claimWord a x m).toNat < (claimWord b y n).toNat ↔
        a.code < b.code ∨ (a = b ∧ (x < y ∨ (x = y ∧ m < n))))) ∧
    (∀ (last : Option Direction) (phase : Phase) (f : MemFields) (m : KnownMirror),
      4 ≤ (weight last phase f (f.nextCommand m)).2) ∧
    (∀ (s : State) (e : Entry) (f : MemFields) (last : Option Direction) (m : KnownMirror), WithinLimits s →
      s.settings.ageMax ≤ 31 → e ∈ s.queue → e.mem = some f →
      (weight last e.phase f (f.nextCommand m)).2 < 64 ∧
        ∀ n, claimWord (weight last e.phase f (f.nextCommand m)).1 (weight last e.phase f (f.nextCommand m)).2 n ≠ 0) ∧
    (∀ r : Record, judgeRecord r = none → (recordSettings r).ageMax ≤ 31) ∧
    ∀ (s : State) (c : Candidate), maintenanceOf s = some c → 5 ≤ c.score ∧ c.score < 64 ∧ claimWord c.cls c.score s.number ≠ 0

/-! ### The contest -/

/-- In a slot in which every claiming station plays the contest of R133 against the lines as the others drive them, a station
remains in contention to the end exactly when its word is the highest claim word of the slot, and then the eleven sampled bits
form that word; with distinct words exactly one station remains; and with no claiming station every bit samples 0 (R134). -/
def Obligations.HighestClaimWordWins : Prop :=
  ∀ (n : Nat) (words driven : Fin n → ClaimBits),
    (∀ i, driven i = (contest (words i) (drivenByOthers n driven i) 11).1) →
    (∀ i, (contest (words i) (drivenByOthers n driven i) 11).2 = true ↔ ∀ j, (words j).toNat ≤ (words i).toNat) ∧
      (∀ i, (contest (words i) (drivenByOthers n driven i) 11).2 = true →
        driven i = words i ∧ sampledClaim n driven = words i) ∧
      (0 < n → (∀ i j, words i = words j → i = j) →
        ∃ i, ∀ j, (contest (words j) (drivenByOthers n driven j) 11).2 = true ↔ j = i) ∧
      (n = 0 → sampledClaim n driven = 0)

/-- The maintenance offer of a slot is made exactly when its rule gives it: the controller's six in their rank at a MEMBER
(R150 to R153, R158 to R160), the completing REFRESH alone at a LEAVING station (R53), the recovery (R86) and the
initialization step (R48), and none in the other states (R129). An older entry blocks a younger one exactly when it is a
FENCE (R103) or overlaps it with one of the two a write (R101). A claim phase with no limit reached puts each offered
entry's next command (R112) to its test, answers EXFAIL an EXCL_WRITE whose WRITE finds no covering reservation (R113,
R168), and counts each (notes/assumptions/40.md); it picks the queue candidate, claims the chosen candidate, and wins
exactly when no other station drives a 1 in a bit time where its word has a 0 (R133); claims_won rises by 1 when it wins,
claims_lost when it loses, and neither when the station does not claim (R142). Every block but the slot's work, the queue
and the counters is left alone. -/
def Obligations.ClaimPhaseContests : Prop :=
  (∀ (s : State) (k : KeptFields) (m : KnownMirror), s.mirror.kept = some k → s.mirror.known = some m →
    let may := fun c => eligible s.timing s.slot k m s.mirror.fence false c = true
    let count : CheckValue := BitVec.ofNat 16 m.openCount
    let digest := s.settings.digest
    let duty := s.controller.duty = some s.number
    (s.membership.state = .member →
      maintenanceOf s =
        if m.channel = .sleeping ∧ (s.queue ≠ [] ∨ s.lines.quietSample = false) ∧ may (.wake digest) then
          some ⟨.controller, .wake digest, .maintenance, 61⟩
        else if m.refreshHold = true ∧ may (.refresh count) then some ⟨.controller, .refresh count, .maintenance, 60⟩
        else if 5 ≤ s.controller.debt ∧ m.refreshHold = false ∧ may (.closeAll count .refresh digest) then
          some ⟨.controller, .closeAll count .refresh digest, .maintenance, 60⟩
        else if duty ∧ 1 ≤ s.controller.debt ∧ m.refreshHold = false ∧ may (.closeAll count .refresh digest) then
          some ⟨.controller, .closeAll count .refresh digest, .idle, 10⟩
        else if duty ∧ s.lines.quietSample = true ∧ m.channel = .running ∧ m.quietHold = false ∧
            may (.closeAll count .quiet digest) then
          some ⟨.controller, .closeAll count .quiet digest, .idle, 5⟩
        else if duty ∧ s.lines.quietSample = true ∧ m.quietHold = true ∧ may (.sleep count) then
          some ⟨.controller, .sleep count, .idle, 5⟩
        else none) ∧
    (s.membership.state = .leaving → s.membership.leaveDoubt = false →
      maintenanceOf s =
        if m.refreshHold = true ∧ may (.refresh count) then some ⟨.controller, .refresh count, .maintenance, 60⟩ else none) ∧
    ∀ st, s.membership.state = .initializing → s.membership.initStep = some st → (st = .firstRefresh ∨ st = .secondRefresh) →
      maintenanceOf s =
        if may (.refresh 0) then some ⟨.initialization, initCommand s st, .maintenance, 63⟩ else none) ∧
  (∀ (s : State) (k : KeptFields), s.mirror.kept = some k →
    (s.membership.state = .resync ∨ (s.membership.state = .leaving ∧ s.membership.leaveDoubt = true) →
      maintenanceOf s =
        if k.commandBlockUntil ≤ s.slot ∧ (∀ l, k.lastOpenOrWrite = some l → l + s.settings.resyncHold ≤ s.slot) then
          some ⟨.recovery, .closeAll 0 .recover s.settings.digest, .maintenance, 63⟩
        else none) ∧
    (∀ st, s.membership.state = .initializing → s.membership.initStep = some st → st ≠ .firstRefresh → st ≠ .secondRefresh →
      maintenanceOf s =
        if k.commandBlockUntil ≤ s.slot then some ⟨.initialization, initCommand s st, .maintenance, 63⟩ else none) ∧
    (s.mirror.known = none → s.membership.state = .member ∨ (s.membership.state = .leaving ∧ s.membership.leaveDoubt = false) →
      maintenanceOf s = none) ∧
    (s.membership.state ∈ [StationState.off, .loading, .listening, .draining, .detached, .withdrawn] → maintenanceOf s = none)) ∧
  (∀ (o : Entry) (m : MemFields), blocks o m = true ↔
    ∀ a, o.mem = some a →
      a.bank = m.bank ∧ a.row = m.row ∧ ¬(a.kind ∈ [MemKind.read, .exclRead] ∧ m.kind ∈ [MemKind.read, .exclRead]) ∧
        ∃ c, a.column.toNat ≤ c ∧ c < a.column.toNat + a.bursts.toNat ∧ m.column.toNat ≤ c ∧
          c < m.column.toNat + m.bursts.toNat) ∧
  ∀ (s : State) (peers : ClaimBits), s.work.claimTaken = false → s.work.ended = false → NothingExpires s →
    ∃ t, exec (.claimPhase peers) s = .next t ∧
      t = ((s.withWork t.work).withQueue t.queue).withCounters t.counters ∧
      t.work =
        { s.work with
          claimTaken := true, queueCandidate := t.work.queueCandidate, maintenanceCandidate := maintenanceOf s
          claim := t.work.claim } ∧
      t.queue.map Entry.tag = s.queue.map Entry.tag ∧
      (∀ mirror kept, s.mirror.known = some mirror → s.mirror.kept = some kept → offersEntries s = true →
        t.work.queueCandidate = pick kept.lastDirection t.queue ∧
        ∀ (older younger : List Entry) (e : Entry), s.queue = older ++ e :: younger →
          (e.mem = none → t.queue[older.length]? = some e) ∧
          ∀ m, e.mem = some m →
            let offered := (e.phase = .waiting ∨ e.phase = .retryWait) ∧ ∀ o ∈ older, blocks o m = false
            let judgedByTable := m.kind = .exclWrite ∧ e.phase = .waiting ∧ mirror.openRow m.bank = some m.row
            (offered → (judgedByTable → s.table.covers m = true) →
              t.queue[older.length]? =
                some { e with
                  mem := some { m with
                    judged := some
                      ⟨m.nextCommand mirror,
                        eligible s.timing s.slot kept mirror s.mirror.fence (isFencedRetry s e m) (m.nextCommand mirror)⟩ } }) ∧
            (offered → judgedByTable → s.table.covers m = false →
              t.queue[older.length]? = some { e with phase := .done .exfail, mem := some { m with judged := none } }) ∧
            (¬offered → t.queue[older.length]? = some { e with mem := some { m with judged := none } })) ∧
      (s.mirror.known = none ∨ s.mirror.kept = none ∨ offersEntries s = false →
        t.work.queueCandidate = none ∧ t.queue = s.queue) ∧
      (t.work.claim.map Claim.candidate = choose t.work.queueCandidate t.work.maintenanceCandidate) ∧
      (∀ k, t.work.claim = some k →
        k.word = claimWord k.candidate.cls k.candidate.score s.number ∧
          (k.won = true ↔ ∀ b, b < 11 → peers.getLsbD b = true → k.word.getLsbD b = true)) ∧
      t.counters =
        { s.counters with
          claimsWon := s.counters.claimsWon + (match t.work.claim with | some k => if k.won then 1 else 0 | none => 0)
          claimsLost := s.counters.claimsLost + (match t.work.claim with | some k => if k.won then 0 else 1 | none => 0)
          exclusiveFailures :=
            s.counters.exclusiveFailures +
              BitVec.ofNat 32
                (t.queue.countP (fun e => decide (e.phase = .done .exfail)) -
                  s.queue.countP (fun e => decide (e.phase = .done .exfail))) }

/-- An entry makes a candidate of its derived command, with its queue position (R125), exactly where that is judged
eligible. The queue candidate is an entry's candidate that no younger entry's outranks, and one that outranks every older
entry's (R124). The class is the entry's own, and in RETRY_WAIT MAINTENANCE at score 62 for a write and PRIORITY for a read
(R117); the score is the base, 16 for a column command, 8 for an OPEN and 4 for a CLOSE, 3 more for a column command in the
last direction, and the age (R118, R119). Of the queue candidate and the maintenance candidate the Claim Unit chooses the
higher class, at equal class the higher score, and at equal class and score the maintenance candidate; a lone candidate is
chosen (R131). -/
def Obligations.ChosenCandidateIsHighest : Prop :=
  (∀ (last : Option Direction) (position : Nat) (e : Entry) (c : Candidate), entryCandidate last position e = some c ↔
    ∃ m command, e.mem = some m ∧ m.judged = some ⟨command, true⟩ ∧
      c = ⟨.queue position e.tag, command, (weight last e.phase m command).1, (weight last e.phase m command).2⟩) ∧
  (∀ (last : Option Direction) (phase : Phase) (m : MemFields) (c : LaneCommand),
    let write := m.kind = .write ∨ m.kind = .exclWrite
    (phase = .retryWait → write → weight last phase m c = (.maintenance, 62)) ∧
    (phase = .retryWait → ¬write → (weight last phase m c).1 = .priority) ∧
    (phase ≠ .retryWait → (m.cls = .ordinary → (weight last phase m c).1 = .ordinary) ∧
      (m.cls = .priority → (weight last phase m c).1 = .priority)) ∧
    (phase ≠ .retryWait ∨ ¬write →
      (∀ x bank column n, c = .read x bank column n →
        (weight last phase m c).2 = 16 + (if last = some .read then 3 else 0) + m.age) ∧
      (∀ x bank column n, c = .write x bank column n →
        (weight last phase m c).2 = 16 + (if last = some .write then 3 else 0) + m.age) ∧
      (∀ x bank row, c = .openRow x bank row → (weight last phase m c).2 = 8 + m.age) ∧
      ∀ x bank, c = .close x bank → (weight last phase m c).2 = 4 + m.age)) ∧
  (∀ (last : Option Direction) (q : List Entry),
    (pick last q = none ↔ ∀ e ∈ q, ∀ n, entryCandidate last n e = none) ∧
      ∀ c, pick last q = some c →
        ∃ older e younger, q = older ++ e :: younger ∧ entryCandidate last older.length e = some c ∧
          (∀ o ∈ older, ∀ n d, entryCandidate last n o = some d → outranks c d = true) ∧
          (∀ y ∈ younger, ∀ n d, entryCandidate last n y = some d → outranks d c = false)) ∧
    (∀ q m : Candidate,
      (choose (some q) (some m) = some q ↔ m.cls.code < q.cls.code ∨ (m.cls = q.cls ∧ m.score < q.score) ∨ q = m) ∧
        (choose (some q) (some m) = some q ∨ choose (some q) (some m) = some m)) ∧
    (∀ q : Candidate, choose (some q) none = some q) ∧ (∀ m : Candidate, choose none (some m) = some m) ∧
    choose none none = none

/-- A command that a station supplies from its own mirror passes the mirror check: an entry's next command, and every offer
of the Refresh and Quiet Controller, finds no mismatch in the mirror it was made from (R75, R76, R112). What each command
needs to be eligible in a slot: the command block past and the data lines free (R79), the conditions of OPEN (R80), CLOSE
(R81), READ and WRITE (R82), the two CLOSE_ALLs, REFRESH and SLEEP (R84), and WAKE, MODE_SET and CLOSE_ALL(INIT) (R85). A
write fence holds back a column command that shares a column of its row, but for the retry of the fenced WRITE, which is the
fenced entry's own (R83, R114). -/
def Obligations.OwnCommandsPassMirrorCheck : Prop :=
  ((∀ (f : MemFields) (m : KnownMirror), m.mismatch (f.nextCommand m) = false) ∧
    (∀ (f : MemFields) (m : KnownMirror),
      (m.openRow f.bank = none → f.nextCommand m = .openRow 0xFFFF#16 f.bank f.row) ∧
      (∀ row, m.openRow f.bank = some row → row ≠ f.row → f.nextCommand m = .close (rowCheck row) f.bank) ∧
      (m.openRow f.bank = some f.row → f.nextCommand m = f.columnCommand (rowCheck f.row))) ∧
    ∀ (s : State) (m : KnownMirror), ∀ o ∈ offers s m, m.mismatch o.command = false) ∧
    (∀ (t : Timing) (slot : Nat) (k : KeptFields) (m : KnownMirror) (fence : Option WriteFence) (retry : Bool)
      (x : CheckValue) (bank : BankNo) (row : RowNo) (column : ColumnNo) (bursts : BurstCount) (d : Digest) (item : BitVec 2)
      (value : BitVec 4),
      let may := fun c => eligible t slot k m fence retry c = true
      let free := k.commandBlockUntil ≤ slot
      let running := m.channel = .running
      let fenced :=
        ∃ f r, fence = some f ∧ f.bank = bank ∧ m.openRow bank = some r ∧ f.row = rowCheck r ∧
          ∃ c, column.toNat ≤ c ∧ c < column.toNat + bursts.toNat ∧ f.column.toNat ≤ c ∧ c < f.column.toNat + f.bursts.toNat
      let moves := fun latency turnaround =>
        free ∧ running ∧ (m.bank bank).opened ≠ none ∧ (m.bank bank).earliestColumn ≤ slot ∧
          k.dataFree + turnaround ≤ slot + latency
      let closable := ∀ b, (m.bank b).opened ≠ none → (m.bank b).earliestClose ≤ slot
      let settled := (∀ b, (m.bank b).opened = none ∧ (m.bank b).earliestOpen ≤ slot) ∧ k.dataFree ≤ slot
      (may (.openRow x bank row) ↔
        free ∧ running ∧ (m.bank bank).opened = none ∧ (m.bank bank).earliestOpen ≤ slot ∧ k.earliestOpenAny ≤ slot ∧
          m.refreshHold = false ∧ m.quietHold = false) ∧
      (may (.close x bank) ↔ free ∧ running ∧ (m.bank bank).opened ≠ none ∧ (m.bank bank).earliestClose ≤ slot) ∧
      (retry = false →
        (may (.read x bank column bursts) ↔
          moves t.readLatency (if k.lastDirection = some .write then t.turnWR else 0) ∧ ¬fenced)) ∧
      (may (.write x bank column bursts) ↔
        moves t.writeLatency (if k.lastDirection = some .read then t.turnRW else 0) ∧ (retry = true ∨ ¬fenced) ∧
          k.earliestWriteAny ≤ slot) ∧
      (may (.closeAll x .refresh d) ↔ free ∧ running ∧ closable ∧ m.refreshHold = false) ∧
      (may (.closeAll x .quiet d) ↔ free ∧ running ∧ closable ∧ m.refreshHold = false ∧ m.quietHold = false) ∧
      (may (.refresh x) ↔ free ∧ m.channel ≠ .sleeping ∧ settled) ∧
      (may (.sleep x) ↔ free ∧ running ∧ settled ∧ m.refreshHold = false) ∧
      (may (.wake d) ↔ free ∧ m.channel = .sleeping) ∧ (may (.closeAll x .init d) ↔ free) ∧
      (may (.modeSet item value) ↔ free)) ∧
    ∀ (s : State) (e : Entry) (m : MemFields), isFencedRetry s e m = true ↔
      e.phase = .retryWait ∧ (m.kind = .write ∨ m.kind = .exclWrite) ∧ s.dataUnit.fencedEntry = some e.tag ∧
        ∃ f, s.mirror.fence = some f ∧ f.issuer = s.number ∧ f.bank = m.bank ∧ f.row = rowCheck m.row ∧
          f.column = m.column ∧ f.bursts = m.bursts

/-! ### The read-back -/

/-- The read-back of a won command phase finds the word driven. The issue of a column command is taken in that slot, before
the events of its end (R95, R138): the entry's issue slot is the slot and its phase follows its kind, an EXCL_READ sets its
thread's reservation and, where the table is full, evicts the one of smallest set_order (R164), and an EXCL_WRITE in WAITING
consumes its thread's, one in RETRY_WAIT nothing (R169). An OPEN or CLOSE changes no entry (R95), and a REFRESH of a
maintenance source is counted (R193). Nothing else changes. The step changes nothing without a won command phase, and
without a claim phase it takes the one with no other claimant (the model's, notes/assumptions/4.md). A step of the slot's
end finds the claim phase and the read-back over in the same way, and so does an observed command, whose word has its zero
fields at 0 (the model's, notes/assumptions/32.md); the same word brought after it changes nothing
(notes/assumptions/45.md). -/
def Obligations.EqualReadBackIssues : Prop :=
  (∀ (s : State) (k : Claim) (e : Entry) (m : MemFields) (position : Nat), s.work.ended = false → s.work.claimTaken = true →
    wonClaim s = some k → k.candidate.source = .queue position e.tag → isColumn k.candidate.command = true →
    findEntry e.tag s = some e → e.mem = some m →
    ∃ t, exec (.commandReadBack (encodeCommand s.number k.candidate.command)) s = .next t ∧
      t = ((s.withWork { s.work with readBack := some (encodeCommand s.number k.candidate.command) }).withQueue
        t.queue).withTable t.table ∧
      t.queue.length = s.queue.length ∧
      (∀ (j : Nat) (x : Entry), s.queue[j]? = some x → x.tag ≠ e.tag → t.queue[j]? = some x) ∧
      (∀ (j : Nat) (x : Entry), s.queue[j]? = some x → x.tag = e.tag →
        ∃ y, t.queue[j]? = some y ∧ y.tag = e.tag ∧ y.joined = x.joined ∧ y.order = x.order ∧
          y.phase = (if m.kind = .write ∨ m.kind = .exclWrite then .writeIssued else .readIssued) ∧
          y.mem = x.mem.map fun f =>
            { f with issueSlot := some s.slot, retrySlot := none, captured := [], captureFailed := false }) ∧
      t.table.lastWrite = s.table.lastWrite ∧
      (m.kind = .read ∨ m.kind = .write → t.table = s.table) ∧
      (m.kind = .exclRead →
        let others := s.table.reservations.filter fun r => decide (r.thread ≠ m.thread)
        let set : Reservation := ⟨m.thread, m.bank, m.row, m.column, s.slot⟩
        (s.table.pendingWrite m s.slot = true → t.table.reservations = others) ∧
        (s.table.pendingWrite m s.slot = false → others.length < 6 → t.table.reservations = others ++ [set]) ∧
        (s.table.pendingWrite m s.slot = false → 6 ≤ others.length →
          ∃ before r after, others = before ++ r :: after ∧ (∀ x ∈ others, r.setOrder ≤ x.setOrder) ∧
            t.table.reservations = before ++ after ++ [set])) ∧
      (m.kind = .exclWrite → e.phase = .waiting →
        t.table.reservations = s.table.reservations.filter fun r => decide (r.thread ≠ m.thread)) ∧
      (m.kind = .exclWrite → e.phase ≠ .waiting → t.table = s.table)) ∧
    (∀ (t : ReservationTable) (m : MemFields) (slot : Nat), t.pendingWrite m slot = true ↔
      ∃ w, t.lastWrite = some w ∧ w.bank = m.bank ∧ w.row = rowCheck m.row ∧ w.firstColumn ≤ m.column.toNat ∧
        m.column.toNat ≤ w.lastColumn ∧ slot < w.lastDataSlot) ∧
    (∀ (s : State) (k : Claim), s.work.ended = false → s.work.claimTaken = true → wonClaim s = some k →
      isColumn k.candidate.command = false →
      ∃ t, exec (.commandReadBack (encodeCommand s.number k.candidate.command)) s = .next t ∧
        t = (s.withWork { s.work with readBack := some (encodeCommand s.number k.candidate.command) }).withCounters t.counters ∧
        ((∃ check, k.candidate.command = .refresh check) → (∀ position tag, k.candidate.source ≠ .queue position tag) →
          t.counters = { s.counters with refreshesIssued := s.counters.refreshesIssued + 1 }) ∧
        ((∀ check, k.candidate.command ≠ .refresh check) → t.counters = s.counters)) ∧
    (∀ (s : State) (w : LaneBits),
      (s.work.ended = true ∧ s.work.presumed = false) ∨
          (s.work.ended = false ∧ s.work.claimTaken = true ∧ wonClaim s = none) →
        exec (.commandReadBack w) s = .next s) ∧
    (∀ (s : State) (w : LaneBits), s.work.ended = true → s.work.readBack = some w →
      exec (.commandReadBack w) s = .next (s.withWork { s.work with presumed := s.work.presumed && s.work.observed.isSome })) ∧
    (∀ (s : State) (w : LaneBits), s.work.ended = false → s.work.claimTaken = false →
      exec (.commandReadBack w) s = exec (.commandReadBack w) (claimPhase 0 s)) ∧
    (∀ (c : Instr) (s : State), s.work.ended = false → ActsAtEnd c (reachEnd s) →
      (reachEnd s).work.ended = true ∧ exec c s = exec c (reachEnd s)) ∧
    ∀ s : State, s.work.ended = false → s.work.observed = none → s.work.readBack = none →
      (∀ i c, ReadyToObserve (.command i c) (reachObservation (encodeCommand i c) s) ∧
        exec (laneStep i c) s = exec (laneStep i c) (reachObservation (encodeCommand i c) s)) ∧
      (∀ kind i, 10 ≤ kind.toNat → exec (.undefinedCommand kind i) s =
        exec (.undefinedCommand kind i) (reachObservation (undefinedWord kind i) s)) ∧
      exec .emptySlot s = exec .emptySlot (reachObservation 0 s)

/-- A read-back that differs in any of the 48 bits takes no issue, records CLAIM_FAULT with the issuer that the sampled word
names, and withdraws the station by a drain: from DRAINING by its target, from any other state by entry to DRAINING with
target WITHDRAWN, the mirror doubted, the table emptied, the fence removed, the vote withdrawn and every waiting entry
answered ABORTED (R139, R56, R98). A station already in WITHDRAWN stays there with the fault recorded (R61). No entry takes an issue and no counter but that of answered requests and retries moves.
The fault may also come after other events of the slot's end (R42, R59, R93, notes/assumptions/45.md): it then withdraws a
station that a RESTART or a LEAVE of the slot has left in DRAINING or LEAVING, and one that a DETACH or the end of a drain
has left in DETACHED or LISTENING by the model's choice, and the issue that those events had found is taken back. -/
def Obligations.DifferentReadBackWithdraws : Prop :=
  (∀ (s : State) (k : Claim) (w : LaneBits), s.work.ended = false → s.work.claimTaken = true → wonClaim s = some k →
    w ≠ encodeCommand s.number k.candidate.command → s.membership.state ≠ .withdrawn →
    ∃ t, exec (.commandReadBack w) s = .next t ∧ OuterKept s t ∧ t.memory = s.memory ∧
      t.work.readBack = some w ∧ t.work.faulted = true ∧
      t.membership.state = .draining ∧ t.membership.drainTarget = some .withdrawn ∧
      t.membership.roster = s.membership.roster ∧
      t.mirror.kept = s.mirror.kept ∧
      (t.faults.kinds &&& FaultKind.claimFault.bit = FaultKind.claimFault.bit) ∧
      (∀ x ∈ t.queue, x ∈ s.queue) ∧
      t.counters =
        { s.counters with requestsCompleted := t.counters.requestsCompleted, readRetries := t.counters.readRetries } ∧
      (s.membership.state = .draining →
        t.queue = s.queue ∧ t.port = s.port ∧ t.counters = s.counters ∧ t.table = s.table ∧ t.mirror = s.mirror ∧
          t.dataUnit = s.dataUnit ∧ t.controller = s.controller) ∧
      (s.membership.state ≠ .draining → ∀ x ∈ t.queue, x.phase = .readIssued ∨ x.phase = .writeIssued) ∧
      (s.membership.state ≠ .draining → (∀ e ∈ s.queue, e.phase = .waiting) →
        t.queue = [] ∧ t.port = { s.port with joining := abortedAnswers s.queue s.port.joining } ∧
          t.counters =
            { s.counters with
              requestsCompleted := s.counters.requestsCompleted + BitVec.ofNat 32 s.queue.length } ∧
          t.faults.kinds = s.faults.kinds ||| FaultKind.claimFault.bit) ∧
      (s.membership.state ≠ .draining →
        t.mirror.known = none ∧ t.mirror.fence = none ∧ t.table.reservations = [] ∧ t.controller.vote = false) ∧
      t.faults.first =
        some (s.faults.first.getD
          (.claimFault, match decodeCommand w with
            | .empty => 0xFF#8
            | .undefined i => i.setWidth 8
            | .command i _ => i.setWidth 8))) ∧
    (∀ (s : State) (k : Claim) (w : LaneBits), s.work.ended = false → s.work.claimTaken = true → wonClaim s = some k →
      w ≠ encodeCommand s.number k.candidate.command → s.membership.state = .withdrawn →
      exec (.commandReadBack w) s =
        .next ((recordFault .claimFault (optionalDetail (observedIssuer (decodeCommand w))) s).withWork
          { s.work with readBack := some w, faulted := true })) ∧
    (∀ (s : State) (k : Claim) (w : LaneBits), s.work.ended = true → s.work.presumed = true → s.work.observed = none →
      s.work.claim = some k → s.work.readBack ≠ some w → s.membership.state = .withdrawn →
      ∃ t, exec (.commandReadBack w) s = .next t ∧ t.membership = s.membership ∧ t.work.faulted = true ∧
        (t.faults.kinds &&& FaultKind.claimFault.bit = FaultKind.claimFault.bit)) ∧
    ∀ (s : State) (k : Claim) (w : LaneBits), s.work.ended = true → s.work.presumed = true → s.work.observed = none →
      s.work.claim = some k → s.work.readBack ≠ some w → s.membership.state ≠ .withdrawn →
      ∃ t, exec (.commandReadBack w) s = .next t ∧ OuterKept s t ∧ t.memory = s.memory ∧
        t.work.readBack = some w ∧ t.work.faulted = true ∧ t.work.presumed = false ∧
        t.membership.state = .draining ∧ t.membership.drainTarget = some .withdrawn ∧
        t.membership.roster = s.membership.roster ∧ t.mirror.kept = s.mirror.kept ∧
        (t.faults.kinds &&& FaultKind.claimFault.bit = FaultKind.claimFault.bit) ∧
        (s.membership.state ≠ .draining →
          t.mirror.known = none ∧ t.mirror.fence = none ∧ t.table.reservations = [] ∧ t.controller.vote = false) ∧
        (∀ position tag, k.candidate.source = .queue position tag → isColumn k.candidate.command = true →
          (queueTags s).Nodup → ∀ e m, findEntry tag s = some e → e.mem = some m → m.issueSlot = some s.slot →
            e.phase = .readIssued ∨ e.phase = .writeIssued →
            tag ∉ queueTags t ∧
              (m.retryUsed = false →
                .retired e.order (abortedResponse e) ∈ t.port.joining)) ∧
        ((∀ position tag, k.candidate.source ≠ .queue position tag) → (∃ check, k.candidate.command = .refresh check) →
          t.counters.refreshesIssued = s.counters.refreshesIssued - 1)

/-! ### Observed commands at a known mirror -/

/-- An observed OPEN of a closed bank (R67): the bank's row, open slot and two earliest slots, and the channel's opening
spacing; every other bank and the holds stay. In a calm slot nothing else of the station changes. -/
def Obligations.OpenCommandOpensBank : Prop :=
  ∀ (s : State) (i : StationNo) (check : CheckValue) (bank : BankNo) (row : RowNo) (m : KnownMirror) (k : KeptFields),
    compares s = true → s.work.arrived = false → s.mirror.known = some m → s.mirror.kept = some k →
    (m.bank bank).opened = none → ReadyToObserve (.command i (.openRow check bank row)) s →
    ∃ t m', exec (.openCommand i check bank row) s = .next t ∧ t.mirror.known = some m' ∧
      m'.bank bank =
        { opened := some ⟨row, s.slot⟩
          earliestColumn := s.slot + s.timing.openDelay
          earliestClose := s.slot + s.timing.rowHold
          earliestOpen := (m.bank bank).earliestOpen } ∧
      (∀ b, b ≠ bank → m'.bank b = m.bank b) ∧ m'.refreshHold = m.refreshHold ∧ m'.quietHold = m.quietHold ∧
      m'.channel = sampledChannel s m ∧
      t.mirror.kept =
        some { k with
          earliestOpenAny := s.slot + s.timing.openSpacing, lastOpenOrWrite := some s.slot, newerIssuer := some i,
          olderIssuer := k.newerIssuer } ∧
      t.membership = silenced s.membership ∧ t.table = s.table ∧ OuterKept s t ∧
      (Calm s → InnerKept s t ∧ t.dataUnit = s.dataUnit ∧ t.controller = s.controller)

/-- An observed CLOSE changes no kept field but the recent issuers; in a known mirror its bank becomes CLOSED with
earliest_open from CLOSE_DELAY, the bank closed already included, where the check comparison finds a mismatch (R68). -/
def Obligations.CloseCommandClosesBank : Prop :=
  (∀ (s : State) (i : StationNo) (check : CheckValue) (bank : BankNo) (m : KnownMirror) (k : KeptFields) (row : RowNo),
    compares s = true → s.work.arrived = false → s.mirror.known = some m → s.mirror.kept = some k →
    m.openRow bank = some row → check = rowCheck row → ReadyToObserve (.command i (.close check bank)) s →
    ∃ t m', exec (.closeCommand i check bank) s = .next t ∧ t.mirror.known = some m' ∧
      m'.bank bank = { m.bank bank with opened := none, earliestOpen := s.slot + s.timing.closeDelay } ∧
      (∀ b, b ≠ bank → m'.bank b = m.bank b) ∧ m'.refreshHold = m.refreshHold ∧ m'.quietHold = m.quietHold ∧
      m'.channel = sampledChannel s m ∧
      t.mirror.kept = some { k with newerIssuer := some i, olderIssuer := k.newerIssuer } ∧
      t.membership = silenced s.membership ∧ t.table = s.table ∧ OuterKept s t ∧
      (Calm s → InnerKept s t ∧ t.dataUnit = s.dataUnit ∧ t.controller = s.controller)) ∧
    ∀ (m : KnownMirror) (k : KeptFields) (t : Timing) (slot : Nat) (quiet ready : Bool) (check : CheckValue) (bank : BankNo),
      k.apply t slot (.close check bank) = k ∧
        ((m.apply t slot quiet ready (.close check bank)).bank bank).opened = none ∧
        ((m.apply t slot quiet ready (.close check bank)).bank bank).earliestOpen = slot + t.closeDelay ∧
        ((m.bank bank).opened = none → m.mismatch (.close check bank) = true)

/-- An observed READ: data_free and last_direction; no bank changes (R69). -/
def Obligations.ReadCommandTakesDataLines : Prop :=
  ∀ (s : State) (i : StationNo) (check : CheckValue) (bank : BankNo) (column : ColumnNo) (bursts : BurstCount)
    (m : KnownMirror) (k : KeptFields) (row : RowNo),
    compares s = true → s.work.arrived = false → s.mirror.known = some m → s.mirror.kept = some k →
    m.openRow bank = some row → check = rowCheck row → ReadyToObserve (.command i (.read check bank column bursts)) s →
    ∃ t m', exec (.readCommand i check bank column bursts) s = .next t ∧ t.mirror.known = some m' ∧ m'.banks = m.banks ∧
      m'.refreshHold = m.refreshHold ∧ m'.quietHold = m.quietHold ∧
      m'.channel = sampledChannel s m ∧
      t.mirror.kept =
        some { k with
          dataFree := s.slot + s.timing.readLatency + bursts.toNat, lastDirection := some .read, newerIssuer := some i,
          olderIssuer := k.newerIssuer } ∧
      t.membership = silenced s.membership ∧ t.table = s.table ∧ OuterKept s t ∧
      (Calm s → InnerKept s t ∧ t.dataUnit = s.dataUnit ∧ t.controller = s.controller)

/-- An observed WRITE: data_free, last_direction, the write spacing and the bank's write recovery (R69); every reservation
it covers is removed and no other (R166); the last write record (R163; of a word of 0 bursts at column 0,
notes/assumptions/41.md) and the alert attribution record (R172) are replaced, the record marked retried exactly where the
command repeats the last alerted write, which is then gone (R172); a WRITE that repeats the fence's own write clears the
fence, and any other leaves it (R182). The two records go on in every state that takes the lane, at a doubted mirror and
after a mismatch too, the row of the last write record being the mirror's where it holds one and the carried one elsewhere
(R163, R172; where no configuration is loaded, with settings read as 0, notes/assumptions/46.md; a mirror doubted earlier in the slot holds none,
notes/assumptions/53.md). At a doubted mirror every observed command moves the kept fields and, but for a sync point that ends the
doubt, leaves the station state (R65). -/
def Obligations.WriteCommandMovesRecords : Prop :=
  (∀ (s : State) (i : StationNo) (check : CheckValue) (bank : BankNo) (column : ColumnNo) (bursts : BurstCount)
    (m : KnownMirror) (k : KeptFields) (o : OpenRow),
    compares s = true → s.work.arrived = false → s.mirror.known = some m → s.mirror.kept = some k →
    (m.bank bank).opened = some o → check = rowCheck o.row →
    ReadyToObserve (.command i (.write check bank column bursts)) s →
    ∃ t m', exec (.writeCommand i check bank column bursts) s = .next t ∧ t.mirror.known = some m' ∧
      m'.bank bank =
        { m.bank bank with
          earliestClose :=
            max (o.slot + s.timing.rowHold) (s.slot + s.timing.writeLatency + bursts.toNat + s.timing.writeRecovery) } ∧
      (∀ b, b ≠ bank → m'.bank b = m.bank b) ∧ m'.refreshHold = m.refreshHold ∧ m'.quietHold = m.quietHold ∧
      m'.channel = sampledChannel s m ∧
      t.mirror.kept =
        some { k with
          dataFree := s.slot + s.timing.writeLatency + bursts.toNat, lastDirection := some .write,
          earliestWriteAny := s.slot + s.timing.writeSpacing, lastOpenOrWrite := some s.slot, newerIssuer := some i,
          olderIssuer := k.newerIssuer } ∧
      (∀ r, r ∈ t.table.reservations ↔
        r ∈ s.table.reservations ∧
          ¬(r.bank = bank ∧ r.row = o.row ∧ column.toNat ≤ r.column.toNat ∧ r.column.toNat < column.toNat + bursts.toNat)) ∧
      t.table.lastWrite =
        some
          { bank := bank
            row := check
            firstColumn := column.toNat
            lastColumn := column.toNat + bursts.toNat - 1
            lastDataSlot := s.slot + s.timing.writeLatency + bursts.toNat - 1 } ∧
      (∃ a, t.dataUnit.attribution = some a ∧ a.slot = s.slot ∧ a.issuer = i ∧ a.bank = bank ∧ a.column = column ∧
        a.bursts = bursts ∧ a.row = check ∧
        (a.retried = true ↔ ∃ l, s.dataUnit.lastAlerted = some ⟨i, bank, check, column, bursts, l⟩) ∧
        t.dataUnit.lastAlerted = (if a.retried then none else s.dataUnit.lastAlerted)) ∧
      (∀ f, s.mirror.fence = some f →
        ((f.issuer = i ∧ f.bank = bank ∧ f.row = check ∧ f.column = column ∧ f.bursts = bursts) →
          t.mirror.fence = none ∧ t.dataUnit.fencedEntry = none) ∧
        (¬(f.issuer = i ∧ f.bank = bank ∧ f.row = check ∧ f.column = column ∧ f.bursts = bursts) →
          t.mirror.fence = some f ∧ t.dataUnit.fencedEntry = s.dataUnit.fencedEntry)) ∧
      t.membership = silenced s.membership ∧ OuterKept s t ∧
      (Calm s → t.queue = s.queue ∧ t.port = s.port ∧ t.counters = s.counters ∧ t.faults = s.faults ∧
        t.controller = s.controller ∧ (s.mirror.fence = none → t.mirror.fence = none))) ∧
    (∀ (s : State) (i : StationNo) (check : CheckValue) (bank : BankNo) (column : ColumnNo) (bursts : BurstCount),
      takesLane s = true → ReadyToObserve (.command i (.write check bank column bursts)) s →
      ∃ t, exec (.writeCommand i check bank column bursts) s = .next t ∧
        t.table.lastWrite =
          some
            { bank := bank
              row := match s.mirror.known.bind fun m => m.openRow bank with
                | some row => rowCheck row
                | none => check
              firstColumn := column.toNat
              lastColumn := column.toNat + bursts.toNat - 1
              lastDataSlot := s.slot + s.timing.writeLatency + bursts.toNat - 1 } ∧
        ∃ a, t.dataUnit.attribution = some a ∧ a.slot = s.slot ∧ a.issuer = i ∧ a.bank = bank ∧ a.column = column ∧
          a.bursts = bursts ∧ a.row = check ∧
          (a.retried = true ↔ ∃ l, s.dataUnit.lastAlerted = some ⟨i, bank, check, column, bursts, l⟩) ∧
          t.dataUnit.lastAlerted = (if a.retried then none else s.dataUnit.lastAlerted)) ∧
    ∀ (s : State) (i : StationNo) (c : LaneCommand) (k : KeptFields),
      s.membership.state ∈ [StationState.resync, .draining, .detached, .withdrawn] ∨
          (s.membership.state = .leaving ∧ s.membership.leaveDoubt = true) →
      s.work.arrived = false → s.work.doubted = none → s.mirror.known = none → s.mirror.kept = some k →
      (syncDigest c = none ∨ s.membership.state ∈ [StationState.draining, .detached, .withdrawn]) →
      ReadyToObserve (.command i c) s →
      ∃ t, exec (laneStep i c) s = .next t ∧ OuterKept s t ∧ t.mirror.known = none ∧ t.membership = s.membership ∧
        ((∀ x bank column n, c ≠ .write x bank column n) → t.table = s.table) ∧
        ∃ k', t.mirror.kept = some { k' with newerIssuer := some i, olderIssuer := k.newerIssuer } ∧
          k' =
            match c with
            | .openRow .. => { k with earliestOpenAny := s.slot + s.timing.openSpacing, lastOpenOrWrite := some s.slot }
            | .read _ _ _ bursts =>
              { k with dataFree := s.slot + s.timing.readLatency + bursts.toNat, lastDirection := some .read }
            | .write _ _ _ bursts =>
              { k with
                dataFree := s.slot + s.timing.writeLatency + bursts.toNat, lastDirection := some .write,
                earliestWriteAny := s.slot + s.timing.writeSpacing, lastOpenOrWrite := some s.slot }
            | .refresh _ => { k with commandBlockUntil := s.slot + s.timing.refreshBusy }
            | .sleep _ => { k with sleepSeen := true }
            | .wake _ => { k with commandBlockUntil := s.slot + s.timing.wakeDelay, sleepSeen := false }
            | .closeAll _ .init _ => { k with commandBlockUntil := s.slot + s.timing.wakeDelay, sleepSeen := false }
            | .closeAll .. => k
            | .close .. => k
            | .modeSet .. => k

/-- An observed CLOSE_ALL of any purpose at a MEMBER, with the count of open banks as its check value where its purpose has
one: every bank CLOSED with earliest_open from CLOSE_DELAY, and the holds, the channel state and the kept fields as the
purpose gives (R70, R71). -/
def Obligations.CloseAllCommandClosesEveryBank : Prop :=
  ∀ (s : State) (i : StationNo) (check : CheckValue) (p : Purpose) (d : Digest) (m : KnownMirror) (k : KeptFields),
    s.membership.state = .member → s.work.arrived = false → s.mirror.known = some m → s.mirror.kept = some k →
    (p = .refresh ∨ p = .quiet → check.toNat = m.openCount) → ReadyToObserve (.command i (.closeAll check p d)) s →
    ∃ t m', exec (.closeAllCommand i check p d) s = .next t ∧ t.mirror.known = some m' ∧
      (∀ b, m'.bank b = { m.bank b with opened := none, earliestOpen := s.slot + s.timing.closeDelay }) ∧
      m'.refreshHold = (match p with | .init => false | .refresh => true | .quiet => m.refreshHold | .recover => false) ∧
      m'.quietHold =
        (match p with | .init => false | .refresh => m.quietHold | .quiet => s.lines.quietSample | .recover => false) ∧
      (p = .init → m'.channel = (if s.lines.readySample then .running else .initializing)) ∧
      (p ≠ .init → m'.channel = sampledChannel s m) ∧
      t.mirror.kept =
        some
          (match p with
          | .init =>
            { k with
              commandBlockUntil := s.slot + s.timing.wakeDelay, sleepSeen := false, newerIssuer := some i,
              olderIssuer := k.newerIssuer }
          | _ => { k with newerIssuer := some i, olderIssuer := k.newerIssuer }) ∧
      t.membership = s.membership ∧ t.table = s.table ∧ OuterKept s t ∧
      (Calm s → InnerKept s t ∧ t.dataUnit = s.dataUnit ∧ t.controller = s.controller)

/-- An observed REFRESH: the command block and the refresh hold (R72), one less debt at an active account, and not below 0
(R147), and the duty pointer on the next roster number after the issuer: the least number in the roster that is greater, and
where there is none the least in the roster (R148). In the slot of an entry to LISTENING that roster is the sampled one,
without the station's own number, by the model's choice (notes/assumptions/48.md). -/
def Obligations.RefreshCommandServesAccount : Prop :=
  (∀ (s : State) (i : StationNo) (check : CheckValue) (m : KnownMirror) (k : KeptFields),
    compares s = true → s.work.arrived = false → s.mirror.known = some m → s.mirror.kept = some k →
    check.toNat = m.openCount → ReadyToObserve (.command i (.refresh check)) s →
    ∃ t m', exec (.refreshCommand i check) s = .next t ∧ t.mirror.known = some m' ∧ m'.banks = m.banks ∧
      m'.refreshHold = false ∧ m'.quietHold = m.quietHold ∧ m'.channel = sampledChannel s m ∧
      t.mirror.kept =
        some { k with
          commandBlockUntil := s.slot + s.timing.refreshBusy, newerIssuer := some i, olderIssuer := k.newerIssuer } ∧
      t.controller.debt = (if s.controller.active then s.controller.debt - 1 else s.controller.debt) ∧
      t.controller.duty = nextInRoster s.membership.roster i ∧
      t.controller.periodCount = s.controller.periodCount ∧ t.controller.counting = s.controller.counting ∧
      t.membership = silenced s.membership ∧ t.table = s.table ∧ OuterKept s t ∧
      (Calm s → InnerKept s t ∧ t.dataUnit = s.dataUnit)) ∧
    ∀ (roster : StationSet) (n : StationNo),
      (∀ k, inRoster roster k = roster.getLsbD k.toNat) ∧ (nextInRoster roster n = none ↔ roster = 0) ∧
        ∀ k, nextInRoster roster n = some k ↔
          inRoster roster k = true ∧
            ((n < k ∧ ∀ j, inRoster roster j = true → n < j → k ≤ j) ∨
              ((∀ j, inRoster roster j = true → j ≤ n) ∧ ∀ j, inRoster roster j = true → k ≤ j))

/-- An observed SLEEP and an observed WAKE at a MEMBER (R72): SLEEPING with both holds absent, and RUNNING with every bank
CLOSED and its CLOSE_DELAY past; an active account stops and stands at 0 through sleep, and starts again at debt 1 (R147), one that
started earlier in the slot included, by the model's choice (notes/assumptions/47.md). -/
def Obligations.SleepAndWakeCommands : Prop :=
  (∀ (s : State) (i : StationNo) (check : CheckValue) (m : KnownMirror) (k : KeptFields),
    s.membership.state = .member → s.work.arrived = false → s.mirror.known = some m → s.mirror.kept = some k →
    check.toNat = m.openCount → ReadyToObserve (.command i (.sleep check)) s →
    ∃ t, exec (.sleepCommand i check) s = .next t ∧
      t.mirror.known = some { m with channel := .sleeping, refreshHold := false, quietHold := false } ∧
      t.mirror.kept = some { k with sleepSeen := true, newerIssuer := some i, olderIssuer := k.newerIssuer } ∧
      (s.controller.active = true →
        t.controller.debt = 0 ∧ t.controller.counting = false ∧ t.controller.periodCount = 0) ∧
      t.membership = s.membership ∧ t.table = s.table ∧ OuterKept s t ∧ (Calm s → InnerKept s t ∧ t.dataUnit = s.dataUnit)) ∧
    ∀ (s : State) (i : StationNo) (d : Digest) (m : KnownMirror) (k : KeptFields),
      s.membership.state = .member → s.work.arrived = false → s.mirror.known = some m → s.mirror.kept = some k →
      ReadyToObserve (.command i (.wake d)) s →
      ∃ t m', exec (.wakeCommand i d) s = .next t ∧ t.mirror.known = some m' ∧ m'.channel = .running ∧
        (∀ b, (m'.bank b).opened = none ∧ (m'.bank b).earliestOpen ≤ s.slot) ∧
        m'.refreshHold = m.refreshHold ∧ m'.quietHold = m.quietHold ∧
        t.mirror.kept =
          some { k with
            commandBlockUntil := s.slot + s.timing.wakeDelay, sleepSeen := false, newerIssuer := some i,
            olderIssuer := k.newerIssuer } ∧
        (s.controller.active = true →
          t.controller.debt = 1 ∧ t.controller.counting = true ∧ t.controller.periodCount = 0) ∧
        t.membership = s.membership ∧ t.table = s.table ∧ OuterKept s t ∧
        (Calm s → InnerKept s t ∧ t.dataUnit = s.dataUnit)

/-- An observed MODE_SET changes no kept field but the recent issuers (R73); it takes a MEMBER to RESYNC (R51) and sets the
leave-doubt condition of a LEAVING station (R54), each counted once a slot in resyncs, and doubts a LISTENING station's mirror
(R45), and records no fault of its own. In the slot of the ready line's rise the state at the command counts, by the model's
choice (notes/assumptions/52.md). -/
def Obligations.ModeSetCommandDoubtsMirror : Prop :=
  ∀ (s : State) (i : StationNo) (item : BitVec 2) (value : BitVec 4) (k : KeptFields),
    compares s = true → s.work.arrived = false → s.mirror.kept = some k → ReadyToObserve (.command i (.modeSet item value)) s →
    ∃ t, exec (.modeSetCommand i item value) s = .next t ∧ t.mirror.known = none ∧
      t.mirror.kept = some { k with newerIssuer := some i, olderIssuer := k.newerIssuer } ∧
      (s.membership.state = .member → t.membership = { s.membership with state := .resync }) ∧
      (s.membership.state = .leaving → t.membership = { s.membership with leaveDoubt := true }) ∧
      (s.membership.state = .listening → t.membership = { s.membership with silence := 0 }) ∧
      (s.membership.state ≠ .listening → t.table.reservations = [] ∧ t.controller.vote = false ∧
        (s.work.doubted = none → t.counters.resyncs = s.counters.resyncs + 1)) ∧
      (s.membership.state = .listening → t.counters.resyncs = s.counters.resyncs) ∧
      OuterKept s t ∧ (Calm s → (∀ e ∈ s.queue, e.isWriteRetry = false) → t.faults = s.faults ∧ t.queue = s.queue)

/-- A slot with no command and a slot with an undefined command, at a station that is not INITIALIZING: the recent issuers
move on (R66; kept fields without value stay so, notes/assumptions/46.md), the silence of a LISTENING station grows or ends
(R47, R140), and no other field of the mirror or of the station state changes (R194), nor of any other block in a calm slot. An undefined command of another station ends an
initialization (R50). -/
def Obligations.EmptyAndUndefinedCommands : Prop :=
  (∀ s : State, takesLane s = true → ReadyToObserve .empty s →
    ∃ t, exec .emptySlot s = .next t ∧ t.mirror.known = s.mirror.known ∧
      t.mirror.kept = (s.mirror.kept.map fun k => { k with newerIssuer := none, olderIssuer := k.newerIssuer }) ∧
      (s.membership.state = .listening → s.work.silenceSettled = false →
        t.membership = { s.membership with silence := min (s.membership.silence + 1) 65535 }) ∧
      (s.membership.state ≠ .listening → t.membership = s.membership) ∧
      t.memory = s.memory ∧ t.table = s.table ∧ OuterKept s t ∧
      (QueueOpen s ∧ s.work.attributed = none →
        t.port = s.port ∧ t.counters = s.counters ∧ t.faults = s.faults ∧ t.dataUnit = s.dataUnit ∧
          t.controller = s.controller ∧ t.mirror.fence = s.mirror.fence ∧ (QueueUnjudged s → t.queue = s.queue))) ∧
    ∀ (s : State) (kind : BitVec 4) (i : StationNo), takesLane s = true → ReadyToObserve (.undefined i) s →
      ∃ t, exec (.undefinedCommand kind i) s = .next t ∧
        t.mirror.kept = (s.mirror.kept.map fun k => { k with newerIssuer := some i, olderIssuer := k.newerIssuer }) ∧
        t.memory = { s.memory with commandAlerts := s.memory.commandAlerts ++ [s.memory.now + 2] } ∧
        (s.membership.state ≠ .initializing ∨ i = s.number →
          t.mirror.known = s.mirror.known ∧ t.membership = silenced s.membership ∧ t.table = s.table ∧
            t.mirror.fence = s.mirror.fence ∧ t.dataUnit = s.dataUnit ∧
            (Calm s → t.faults = s.faults ∧ t.controller = s.controller)) ∧
        (s.membership.state = .initializing → i ≠ s.number →
          t.membership.state = .listening ∧ t.membership.silence = 0 ∧ t.mirror.known = none ∧ t.mirror.fence = none) ∧
        OuterKept s t ∧ (Calm s → t.queue = s.queue ∧ t.port = s.port ∧ t.counters = s.counters)

/-! ### Observed commands and the station state -/

/-- A mirror fault is recorded as MIRROR_FAULT with the issuer; a write retry that the entry to RESYNC fails in the same
step is recorded after it (notes/assumptions/26.md). At a MEMBER, of a command that is no sync point, the station enters
RESYNC, the mirror is doubted, the table emptied, the vote withdrawn and the resyncs counter rises by 1 (R51, R77). At a
LEAVING station the leave-doubt condition is set in the same way (R54, R77). At a LISTENING station with a known mirror the
mirror is doubted, with no record (R45, R77). A mismatch on a CLOSE_ALL(REFRESH) or CLOSE_ALL(QUIET) is a sync point as
well: the MEMBER is MEMBER again in the slot and the leave-doubt condition removed again, the mirror known from the command
(R52, R54, R77). -/
def Obligations.MirrorFaultEntersResync : Prop :=
  (∀ (s : State) (i : StationNo) (c : LaneCommand) (m : KnownMirror), s.membership.state = .member →
    s.work.arrived = false → s.work.faulted = false → s.work.doubted = none → s.mirror.known = some m → m.mismatch c = true →
    syncDigest c = none → s.work.attributed = none → ReadyToObserve (.command i c) s →
    ∃ t, exec (laneStep i c) s = .next t ∧ t.membership = { s.membership with state := .resync } ∧
      t.mirror.known = none ∧ t.table.reservations = [] ∧ t.controller.vote = false ∧
      t.counters.resyncs = s.counters.resyncs + 1 ∧
      (t.faults.kinds &&& FaultKind.mirrorFault.bit = FaultKind.mirrorFault.bit) ∧
      t.faults.first = some (s.faults.first.getD (.mirrorFault, i.setWidth 8)) ∧
      (t.mirror.kept = s.mirror.kept.map fun k =>
        { k.apply s.timing s.slot c with newerIssuer := some i, olderIssuer := k.newerIssuer }) ∧
      OuterKept s t ∧ t.memory = s.memory.take (fun j => decide (s.loader.straps = some j)) (.command i c)) ∧
    (∀ (s : State) (i : StationNo) (c : LaneCommand) (m : KnownMirror), s.membership.state = .leaving →
      s.membership.leaveDoubt = false → s.work.arrived = false → s.work.faulted = false → s.work.doubted = none →
      s.mirror.known = some m → m.mismatch c = true → syncDigest c = none → s.work.attributed = none →
      ReadyToObserve (.command i c) s →
      ∃ t, exec (laneStep i c) s = .next t ∧ t.membership = { s.membership with leaveDoubt := true } ∧
        t.mirror.known = none ∧ t.table.reservations = [] ∧ t.counters.resyncs = s.counters.resyncs + 1 ∧
        (t.faults.kinds &&& FaultKind.mirrorFault.bit = FaultKind.mirrorFault.bit) ∧
        t.faults.first = some (s.faults.first.getD (.mirrorFault, i.setWidth 8)) ∧ OuterKept s t) ∧
    (∀ (s : State) (i : StationNo) (c : LaneCommand) (m : KnownMirror), s.membership.state = .listening →
      s.work.arrived = false → s.work.faulted = false → s.mirror.known = some m → m.mismatch c = true → syncDigest c = none →
      s.work.attributed = none → ReadyToObserve (.command i c) s →
      ∃ t, exec (laneStep i c) s = .next t ∧ t.membership = { s.membership with silence := 0 } ∧ t.mirror.known = none ∧
        t.faults = s.faults ∧ t.counters.resyncs = s.counters.resyncs ∧ OuterKept s t) ∧
    ∀ (s : State) (i : StationNo) (check : CheckValue) (p : Purpose) (d : Digest) (m : KnownMirror) (k : KeptFields),
      s.membership.state = .member ∨ (s.membership.state = .leaving ∧ s.membership.leaveDoubt = false) →
      s.work.arrived = false → s.work.faulted = false → s.work.doubted = none → s.mirror.known = some m →
      s.mirror.kept = some k → p = .refresh ∨ p = .quiet → check.toNat ≠ m.openCount → s.work.attributed = none →
      ReadyToObserve (.command i (.closeAll check p d)) s →
      ∃ t m', exec (.closeAllCommand i check p d) s = .next t ∧ t.membership = s.membership ∧ t.mirror.known = some m' ∧
        (∀ b, (m'.bank b).opened = none ∧ (m'.bank b).earliestOpen = s.slot + s.timing.closeDelay) ∧
        m'.refreshHold = decide (p = .refresh) ∧ m'.quietHold = (decide (p = .quiet) && s.lines.quietSample) ∧
        m'.channel = (if k.sleepSeen then .sleeping else .running) ∧
        t.table.reservations = [] ∧ t.controller.vote = false ∧ t.counters.resyncs = s.counters.resyncs + 1 ∧
        (s.membership.state = .member → t.controller.idleCount = 0) ∧
        (t.faults.kinds &&& FaultKind.mirrorFault.bit = FaultKind.mirrorFault.bit) ∧
        t.faults.first = some (s.faults.first.getD (.mirrorFault, i.setWidth 8)) ∧ OuterKept s t

/-- A sync point at a LISTENING station (R44 to R46): with its own digest the mirror becomes known, and the station becomes
MEMBER with its account started at debt 0, the timer counting unless the channel sleeps (R145), where the ready line is
sampled high; with another digest CONFIG_MISMATCH is recorded with the issuer and the station drains towards WITHDRAWN,
every waiting entry answered ABORTED (R56, R98). -/
def Obligations.SyncPointAtListeningStation : Prop :=
  ∀ (s : State) (i : StationNo) (c : LaneCommand) (d : Digest) (k : KeptFields), s.membership.state = .listening →
    s.work.arrived = false → s.mirror.kept = some k → syncDigest c = some d → s.work.attributed = none →
    ReadyToObserve (.command i c) s →
    ∃ t, exec (laneStep i c) s = .next t ∧ OuterKept s t ∧ t.membership.roster = s.membership.roster ∧
      (d = s.settings.digest → t.mirror.known.isSome = true ∧
        (s.lines.readySample = true → t.membership.state = .member ∧ AccountStarted t ∧ t.controller.idleCount = 0) ∧
        (s.lines.readySample = false → t.membership = { s.membership with silence := 0 })) ∧
      (d ≠ s.settings.digest →
        t.membership.state = .draining ∧ t.membership.drainTarget = some .withdrawn ∧ t.mirror.known = none ∧
          (t.faults.kinds &&& FaultKind.configMismatch.bit = FaultKind.configMismatch.bit) ∧
          t.faults.first = some (s.faults.first.getD (.configMismatch, i.setWidth 8)) ∧
          ((∀ e ∈ s.queue, e.phase = .waiting) →
            t.queue = [] ∧ FaultNoted .configMismatch (i.setWidth 8) s.faults t.faults ∧
              t.port = { s.port with joining := abortedAnswers s.queue s.port.joining } ∧
              t.counters =
                { s.counters with
                  requestsCompleted := s.counters.requestsCompleted + BitVec.ofNat 32 s.queue.length }))

/-- A doubted mirror becomes known at a sync point in RESYNC, which makes the station MEMBER again, and under the leave-doubt
condition, which it removes (R52, R54, R74): every bank CLOSED, the holds and the channel state as the command gives. -/
def Obligations.SyncPointEndsDoubt : Prop :=
  ∀ (s : State) (i : StationNo) (c : LaneCommand) (k : KeptFields),
    s.membership.state = .resync ∨ (s.membership.state = .leaving ∧ s.membership.leaveDoubt = true) →
    s.work.arrived = false → s.work.doubted = none → s.mirror.known = none → s.mirror.kept = some k →
    (syncDigest c).isSome = true → ReadyToObserve (.command i c) s →
    ∃ t m, exec (laneStep i c) s = .next t ∧ t.mirror.known = some m ∧ OuterKept s t ∧
      (s.membership.state = .resync → t.membership = { s.membership with state := .member } ∧ t.controller.idleCount = 0) ∧
      (s.membership.state = .leaving → t.membership = { s.membership with leaveDoubt := false }) ∧
      (∀ d, c = .wake d →
        m.channel = .running ∧ m.refreshHold = false ∧ m.quietHold = false ∧
          ∀ b, (m.bank b).opened = none ∧ (m.bank b).earliestOpen = s.slot) ∧
      ∀ check p d, c = .closeAll check p d →
        m.refreshHold = decide (p = .refresh) ∧ m.quietHold = (decide (p = .quiet) && s.lines.quietSample) ∧
          (∀ b, (m.bank b).opened = none ∧ (m.bank b).earliestOpen = s.slot + s.timing.closeDelay) ∧
          (p = .init → m.channel = (if s.lines.readySample then .running else .initializing)) ∧
          (p ≠ .init → m.channel = (if k.sleepSeen then .sleeping else .running))

/-- An INITIALIZING station at its own command of its current step goes on to the next step, and at the last REFRESH becomes
MEMBER with its account started at debt 0 and its timer counting (R48, R49, R145); at another station's command it goes back
to LISTENING (R50). The seven steps are MODE_SET of items 0 to 3, to READ_LATENCY, WRITE_LATENCY, 1 and 1, then
CLOSE_ALL(INIT) with the station's digest, then two REFRESHes with check value 0 (R48). -/
def Obligations.InitializationAdvances : Prop :=
  (∀ (s : State) (st : InitStep), s.membership.state = .initializing → s.membership.initStep = some st →
    s.work.arrived = false → s.mirror.kept.isSome = true → s.work.attributed = none →
    ReadyToObserve (.command s.number (initCommand s st)) s →
    ∃ t, exec (laneStep s.number (initCommand s st)) s = .next t ∧ OuterKept s t ∧
      (∀ n, st.next = some n → t.membership = { s.membership with initStep := some n }) ∧
      (st = .closeAll → t.mirror.known.isSome = true) ∧
      (st = .secondRefresh →
        t.membership = { s.membership with state := .member, initStep := none } ∧ AccountStarted t ∧
          t.controller.duty = nextInRoster s.membership.roster s.number)) ∧
    (∀ s : State,
      initCommand s .setReadLatency = .modeSet 0 (BitVec.ofNat 4 s.timing.readLatency) ∧
        initCommand s .setWriteLatency = .modeSet 1 (BitVec.ofNat 4 s.timing.writeLatency) ∧
        initCommand s .setCheckEnable = .modeSet 2 1 ∧ initCommand s .setAlertEnable = .modeSet 3 1 ∧
        initCommand s .closeAll = .closeAll 0 .init s.settings.digest ∧ initCommand s .firstRefresh = .refresh 0 ∧
        initCommand s .secondRefresh = .refresh 0) ∧
    (InitStep.next .setReadLatency = some .setWriteLatency ∧ InitStep.next .setWriteLatency = some .setCheckEnable ∧
      InitStep.next .setCheckEnable = some .setAlertEnable ∧ InitStep.next .setAlertEnable = some .closeAll ∧
      InitStep.next .closeAll = some .firstRefresh ∧ InitStep.next .firstRefresh = some .secondRefresh ∧
      InitStep.next .secondRefresh = none) ∧
    ∀ (s : State) (i : StationNo) (c : LaneCommand), s.membership.state = .initializing → s.work.arrived = false →
      i ≠ s.number → ReadyToObserve (.command i c) s →
      ∃ t, exec (laneStep i c) s = .next t ∧ OuterKept s t ∧ t.mirror.known = none ∧ t.mirror.fence = none ∧
        t.membership =
          { s.membership with
            state := .listening, silence := 0, initStep := none, drainTarget := none, leaveDoubt := false }

/-- An entry whose command was eligible in a slot that did not serve it takes the ageing step (R120, R121): the guard count
first, where its age already stands at AGE_MAX, with promotion when it reaches GUARD, and then the age; every other entry,
and every field but these three, stays. An empty slot serves nobody. A slot that carries a command serves an entry that the
command has served, or whose own column command it was, and passes over the others (R120, R122). -/
def Obligations.PassedOverEntryAges : Prop :=
  (∀ s : State, takesLane s = true → ReadyToObserve .empty s → QueueOpen s → s.work.attributed = none →
    ∃ t, exec .emptySlot s = .next t ∧ t.queue.length = s.queue.length ∧
      ∀ (j : Nat) (e : Entry) (m : MemFields), s.queue[j]? = some e → e.mem = some m →
        (∀ c, m.judged = some ⟨c, true⟩ → e.phase.owing = true →
          ∃ m', t.queue[j]? = some { e with mem := some m' } ∧ Aged s.settings m m') ∧
        (m.judged = none ∨ (∃ c, m.judged = some ⟨c, false⟩) ∨ e.phase.owing = false → t.queue[j]? = some e)) ∧
    ∀ (s : State) (i : StationNo) (c : LaneCommand) (k : KnownMirror), s.membership.state = .member → s.work.arrived = false →
      s.mirror.known = some k → k.mismatch c = false → isModeSet c = false → ReadyToObserve (.command i c) s → QueueOpen s →
      s.work.attributed = none →
      ∃ t, exec (laneStep i c) s = .next t ∧ t.queue.length = s.queue.length ∧
        ∀ (j : Nat) (e : Entry) (m : MemFields), s.queue[j]? = some e → e.mem = some m →
          (∀ own, m.judged = some ⟨own, true⟩ → e.phase.owing = true → ¬Served c own →
            ∃ m', t.queue[j]? = some { e with mem := some m' } ∧ Aged s.settings m m') ∧
          (m.judged = none ∨ (∃ own, m.judged = some ⟨own, false⟩) ∨ e.phase.owing = false ∨
              (∃ own, m.judged = some ⟨own, true⟩ ∧ Served c own) →
            t.queue[j]? = some e)

/-! ### Alerts -/

/-- An observed COMMAND_ERROR alert leaves the kept fields as they are (R78). It takes a MEMBER to RESYNC and sets a LEAVING
station's leave-doubt condition, recorded as COMMAND_ALERT with the issuer of two slots earlier (R51, R54), before a write
retry that the same step fails (notes/assumptions/26.md); it ends an initialization (R50) and doubts a LISTENING station's
mirror (R45); any other state, LEAVING under the leave-doubt condition among them, stays and records nothing. The station's
own WRITE of two slots earlier, still in WRITE_ISSUED, is answered DATA_ERROR and WRITE_DATA_ERROR recorded (R178). -/
def Obligations.CommandErrorAlertDoubtsMirror : Prop :=
  ∀ (s : State) (k : KeptFields), takesLane s = true → s.work.commandAlert = false → s.work.doubted = none →
    s.work.observed = none → s.work.ended = true → s.mirror.kept = some k →
    ∃ t, exec .commandErrorAlert s = .next t ∧ t.mirror.kept = s.mirror.kept ∧ OuterKept s t ∧ t.memory = s.memory ∧
      (s.membership.state = .member →
        t.membership = { s.membership with state := .resync } ∧ t.mirror.known = none ∧ t.table.reservations = [] ∧
          t.controller.vote = false ∧ t.counters.resyncs = s.counters.resyncs + 1) ∧
      (s.membership.state = .leaving → s.membership.leaveDoubt = false →
        t.membership = { s.membership with leaveDoubt := true } ∧ t.mirror.known = none ∧ t.table.reservations = []) ∧
      (s.membership.state = .initializing → t.membership.state = .listening ∧ t.membership.silence = 0 ∧ t.mirror.known = none) ∧
      (s.membership.state = .listening → t.membership = s.membership ∧ t.mirror.known = none) ∧
      (s.membership.state = .resync ∨ s.membership.state = .draining ∨ s.membership.state = .detached ∨
          s.membership.state = .withdrawn ∨ (s.membership.state = .leaving ∧ s.membership.leaveDoubt = true) →
        t.membership = s.membership ∧ t.mirror.known = s.mirror.known ∧
          (t.faults.kinds &&& FaultKind.commandAlert.bit = s.faults.kinds &&& FaultKind.commandAlert.bit)) ∧
      (s.membership.state = .member ∨ (s.membership.state = .leaving ∧ s.membership.leaveDoubt = false) ∨
          s.membership.state = .initializing →
        (t.faults.kinds &&& FaultKind.commandAlert.bit = FaultKind.commandAlert.bit) ∧
          ((∀ e ∈ s.queue, writeIssuedIn (s.slot - 2) e = false) →
            t.faults.first =
              some (s.faults.first.getD
                (.commandAlert, match k.olderIssuer with | some i => i.setWidth 8 | none => 0xFF#8)))) ∧
      ∀ e, 2 ≤ s.slot → s.queue.find? (writeIssuedIn (s.slot - 2)) = some e →
        (∀ x ∈ t.queue, x.tag ≠ e.tag) ∧ (t.faults.kinds &&& FaultKind.writeDataError.bit = FaultKind.writeDataError.bit) ∧
          ∀ m, e.mem = some m →
            .retired e.order
                { kind := .retired .dataError, requestKind := memKindCode m.kind, tag := e.tag, thread := m.thread, data := [] } ∈
              t.port.joining

/-- A WRITE_CHECK alert inside the window of the attributed WRITE (R179) sets the last alerted write, none for an issuer
sampled falling in the slot (R172); outside it the alert sets nothing. By the state that the slot leaves (R180,
notes/assumptions/37.md), a holder's fence is then set over the WRITE's range, with its limit 4 × ALERT_WINDOW slots on and
final for a retry; for an issuer that has gone ORPHAN_WRITE is recorded instead; a station that holds no fence sets none.
The slot's end of a MEMBER leaves it so. -/
def Obligations.WriteCheckAlertSetsFence : Prop :=
  (∀ (s : State) (a : Attribution), takesLane s = true → s.work.ended = true → s.work.writeAlert = false →
    s.work.replacedAttribution = none → s.dataUnit.attribution = some a → a.slot < s.slot →
    s.slot < a.slot + s.timing.alertWindow →
    ∃ t, exec .writeCheckAlert s = .next t ∧ OuterKept s t ∧ t.membership = s.membership ∧ t.table = s.table ∧
      t.memory = s.memory ∧ t.mirror = s.mirror ∧ t.work.attributed = some a ∧
      t.dataUnit =
        { s.dataUnit with
          lastAlerted :=
            if inRoster s.work.fell a.issuer then none
            else some ⟨a.issuer, a.bank, a.row, a.column, a.bursts, s.slot + 4 * s.timing.alertWindow⟩ } ∧
      (a.issuer ≠ s.number → QueueOpen s →
        t.queue = s.queue ∧ t.port = s.port ∧ t.counters = s.counters ∧ t.controller = s.controller ∧ t.faults = s.faults)) ∧
    (∀ s : State, s.work.ended = true → s.work.writeAlert = false → s.work.replacedAttribution = none →
      (∀ a, s.dataUnit.attribution = some a → s.slot ≤ a.slot ∨ a.slot + s.timing.alertWindow ≤ s.slot) →
      exec .writeCheckAlert s = .next (s.withWork { s.work with writeAlert := true })) ∧
    (∀ (s : State) (a : Attribution), s.work.attributed = some a → a.issuer ≠ s.number → s.work.alertFailed = false →
      (holdsFence s.membership.state = true →
        (s.membership.state = .leaving → ∃ e ∈ s.queue, e.mem.isSome = true ∧ e.phase.answered = none) →
        (inRoster s.membership.roster a.issuer = true →
          (closeAlert s).mirror =
            { s.mirror with
              fence :=
                some ⟨a.issuer, a.bank, a.row, a.column, a.bursts, s.slot + 4 * s.timing.alertWindow, a.retried⟩ } ∧
          (closeAlert s).dataUnit = { s.dataUnit with fencedEntry := none } ∧
          (s.mirror.fence = none ∨ s.dataUnit.fencedEntry = none →
            (closeAlert s).queue = s.queue ∧ (closeAlert s).faults = s.faults)) ∧
        (inRoster s.membership.roster a.issuer = false →
          ∃ f, closeAlert s = s.withFaults f ∧ FaultNoted .orphanWrite (a.issuer.setWidth 8) s.faults f)) ∧
      (holdsFence s.membership.state = false → closeAlert s = s)) ∧
    ∀ (s : State) (a : Attribution), s.pending = [] → s.membership.state = .member → s.work.ended = true →
      s.work.attributed = some a → s.work.alertFailed = false → a.issuer ≠ s.number →
      inRoster s.membership.roster a.issuer = true → s.work.observed.isSome = true →
      s.memory.alertLine = ⟨false, false⟩ → (s.lines.presence = true → inRoster s.membership.roster s.number = true) →
      (s.lines.ready = true → s.lines.readySample = true) →
      ∃ t, step s = .next t ∧ t.dataUnit.fencedEntry = none ∧
        t.mirror.fence =
          some ⟨a.issuer, a.bank, a.row, a.column, a.bursts, s.slot + 4 * s.timing.alertWindow, a.retried⟩

/-- The attributed alert at the issuer's own entry (R97, R181). After a retry the entry retires with DATA_ERROR at once,
WRITE_DATA_ERROR is recorded, and no fence stands for it when the slot has ended. The first alert is judged by the state
that the slot leaves (notes/assumptions/37.md): a MEMBER's, or a LEAVING station's that knows its mirror, sends the entry to
RETRY_WAIT with its retry used, counts a write retry and names the entry behind the fence; in RESYNC, under the leave-doubt
condition and in DRAINING the entry is answered DATA_ERROR. -/
def Obligations.OwnAlertedWriteRetriesOnce : Prop :=
  (∀ (s : State) (a : Attribution) (e : Entry) (m : MemFields), retriesWrites s = true → s.work.arrived = false →
    s.work.ended = true → s.work.writeAlert = false → s.work.replacedAttribution = none →
    s.dataUnit.attribution = some a → a.slot < s.slot → s.slot < a.slot + s.timing.alertWindow → a.issuer = s.number →
    s.queue.find? (writeIssuedIn a.slot) = some e → e.mem = some m → QueueOpen s → (queueTags s).Nodup →
    ∃ t, exec .writeCheckAlert s = .next t ∧ OuterKept s t ∧ t.membership = s.membership ∧ t.table = s.table ∧
      t.memory = s.memory ∧ t.mirror = s.mirror ∧ t.work.attributed = some a ∧
      (m.retryUsed = false →
        t.queue = s.queue ∧ t.counters = s.counters ∧ t.faults = s.faults ∧ t.port = s.port ∧
          t.controller = s.controller ∧ t.work.alertFailed = s.work.alertFailed) ∧
      (m.retryUsed = true →
        t.work.alertFailed = true ∧ t.queue = s.queue.filter (fun x => decide (x.tag ≠ e.tag)) ∧
          FaultNoted .writeDataError (e.tag.setWidth 8) s.faults t.faults ∧
          t.counters = { s.counters with requestsCompleted := s.counters.requestsCompleted + 1 } ∧
          t.port.joining = joinRetired e.order
            { kind := .retired .dataError, requestKind := memKindCode m.kind, tag := e.tag, thread := m.thread, data := [] }
            s.port.joining)) ∧
    (∀ (s : State) (a : Attribution), s.work.attributed = some a → a.issuer = s.number → s.work.alertFailed = true →
      s.queue.find? (writeIssuedIn a.slot) = none → holdsFence s.membership.state = true → s.membership.state ≠ .leaving →
      inRoster s.membership.roster s.number = true →
      (closeAlert s).mirror.fence = none ∧ (closeAlert s).dataUnit.fencedEntry = none) ∧
    (∀ (s : State) (a : Attribution) (e : Entry) (m : MemFields), s.work.attributed = some a → a.issuer = s.number →
      s.queue.find? (writeIssuedIn a.slot) = some e → e.mem = some m → m.retryUsed = false → retriesWrites s = true →
      s.work.alertFailed = false → s.mirror.fence = none → inRoster s.membership.roster s.number = true →
      (∀ x ∈ s.queue, x.retriedIn s.slot = false) → (queueTags s).Nodup →
      (closeAlert s).counters = { s.counters with writeRetries := s.counters.writeRetries + 1 } ∧
        (closeAlert s).faults = s.faults ∧ (closeAlert s).port = s.port ∧ (closeAlert s).membership = s.membership ∧
        (closeAlert s).dataUnit = { s.dataUnit with fencedEntry := some e.tag } ∧
        (closeAlert s).mirror =
          { s.mirror with
            fence :=
              some ⟨a.issuer, a.bank, a.row, a.column, a.bursts, s.slot + 4 * s.timing.alertWindow, a.retried⟩ } ∧
        (closeAlert s).queue =
          s.queue.map fun x =>
            if x.tag = e.tag then
              { e with phase := .retryWait, mem := some { m with retryUsed := true, retrySlot := some s.slot } }
            else x) ∧
    ∀ (s : State) (a : Attribution) (e : Entry), s.work.attributed = some a → a.issuer = s.number →
      s.queue.find? (writeIssuedIn a.slot) = some e → retriesWrites s = false →
      s.mirror.fence = none → inRoster s.membership.roster s.number = true →
      (closeAlert s).queue =
          s.queue.map (fun x => if x.tag = e.tag then { x with phase := .done .dataError } else x) ∧
        (closeAlert s).mirror.fence = none ∧ (closeAlert s).counters = s.counters ∧
        FaultNoted .writeDataError (e.tag.setWidth 8) s.faults (closeAlert s).faults

/-! ### Lines -/

/-- A presence line sampled rising joins the roster and changes nothing else: the duty pointer does not move (R40, R149), but
for a fall or a REFRESH of the same slot that has moved it: its next roster number is taken in the roster the samples leave
(R148, R149; in the slot of an entry to LISTENING by the model's choice, notes/assumptions/48.md). -/
def Obligations.PresenceRiseJoinsRoster : Prop :=
  (∀ (s : State) (n : StationNo), s.membership.state ≠ .off → s.work.ended = true → inRoster s.membership.roster n = false →
    ∃ t, exec (.presenceRise n) s = .next t ∧
      t = (s.withMembership { s.membership with roster := t.membership.roster }).withController
        { s.controller with duty := t.controller.duty } ∧
      (∀ k, inRoster t.membership.roster k = (inRoster s.membership.roster k || decide (k = n))) ∧
      ((∀ i check, s.work.observed ≠ some (.command i (.refresh check))) →
        (s.work.dutyFell = none → t.controller.duty = s.controller.duty) ∧
        ∀ m, s.work.dutyFell = some m → s.controller.duty ≠ none →
          t.controller.duty = nextInRoster t.membership.roster m) ∧
      ∀ i check, s.work.observed = some (.command i (.refresh check)) →
        keepsDuty s.membership.state = true → t.controller.duty = nextInRoster t.membership.roster i) ∧
    ∀ (s : State) (n : StationNo), inRoster s.membership.roster n = true → exec (.presenceRise n) s = .next s

/-- A presence line sampled falling leaves the roster; a duty pointer that names the station moves to the next roster number
after it, and no other (R149); a fence of its writing is cleared with ORPHAN_WRITE unless final (R183), and its last alerted
write goes (R172), one that an alert of the same slot sets later included: the fall is remembered to the slot's end. -/
def Obligations.PresenceFallLeavesRoster : Prop :=
  ∀ (s : State) (n : StationNo), s.membership.state ≠ .off → s.work.ended = true → inRoster s.membership.roster n = true →
    (∀ i check, s.work.observed ≠ some (.command i (.refresh check))) →
    ∃ t, exec (.presenceFall n) s = .next t ∧ OuterKept s t ∧
      t.membership = { s.membership with roster := t.membership.roster } ∧
      (∀ k, inRoster t.membership.roster k = (inRoster s.membership.roster k && decide (k ≠ n))) ∧
      t.controller = { s.controller with duty := t.controller.duty } ∧
      t.controller.duty =
        (if s.controller.duty = some n then nextInRoster t.membership.roster n else s.controller.duty) ∧
      t.mirror.known = s.mirror.known ∧ t.mirror.kept = s.mirror.kept ∧
      (∀ f, s.mirror.fence = some f → f.issuer = n →
        t.mirror.fence = none ∧ t.dataUnit.fencedEntry = none ∧
          (f.final = true → t.faults = s.faults) ∧
          (f.final = false → FaultNoted .orphanWrite (n.setWidth 8) s.faults t.faults)) ∧
      ((∀ f, s.mirror.fence = some f → f.issuer ≠ n) → t.mirror.fence = s.mirror.fence ∧ t.faults = s.faults) ∧
      (∀ w, s.dataUnit.lastAlerted = some w → t.dataUnit.lastAlerted = (if w.issuer = n then none else some w)) ∧
      (∀ k, inRoster t.work.fell k = (inRoster s.work.fell k || decide (k = n))) ∧
      t.queue = s.queue ∧ t.table = s.table ∧ t.port = s.port ∧ t.counters = s.counters ∧ t.memory = s.memory

/-- The ready line sampled high makes a LISTENING station with a known mirror MEMBER with its account started, the timer
counting unless the channel sleeps (R45, R145): the end of a slot in which an account has started, and is still active, leaves
its timer counting unless the channel state that the slot leaves is SLEEPING (R145; after a SLEEP of that slot whose mirror is
then doubted by the model's choice, notes/assumptions/47.md). It takes an INITIALIZING one back to LISTENING (R50), and moves a known mirror
from INITIALIZING to RUNNING (R72); sampled low it only is sampled. -/
def Obligations.ReadyLineMakesMember : Prop :=
  (∀ s : State, s.membership.state ≠ .off → s.work.ended = true →
    exec (.readyLineChange false) s = .next (s.withLines { s.lines with readySample := false })) ∧
    (∀ s : State, s.pending = [] → s.membership.state ≠ .off → s.work.accountStarted = true →
      ∃ t, step s = .next t ∧
        (t.controller.active = true →
          (t.controller.counting = true ↔ ∀ m, t.mirror.known = some m → m.channel ≠ .sleeping))) ∧
    ∀ s : State, s.membership.state ≠ .off → s.work.ended = true →
      ∃ t, exec (.readyLineChange true) s = .next t ∧ t.pending = s.pending ∧ t.slot = s.slot ∧ t.loader = s.loader ∧
        t.lines = { s.lines with readySample := true } ∧ t.mirror.kept = s.mirror.kept ∧ t.memory = s.memory ∧
        t.port = s.port ∧ t.counters = s.counters ∧
        (s.membership.state = .listening → s.mirror.known.isSome = true →
          t.membership = { s.membership with state := .member, initStep := none } ∧ AccountStarted t ∧
            t.controller.idleCount = 0 ∧ t.mirror.known.isSome = true) ∧
        (s.membership.state = .initializing →
          t.membership.state = .listening ∧ t.membership.silence = 0 ∧ t.mirror.known = none ∧ t.mirror.fence = none) ∧
        (s.membership.state ≠ .initializing → ∀ m, s.mirror.known = some m →
          ∃ m', t.mirror.known = some m' ∧ m'.banks = m.banks ∧ m'.refreshHold = m.refreshHold ∧
            m'.quietHold = m.quietHold ∧
            m'.channel = (if m.channel = .initializing then .running else m.channel)) ∧
        (s.membership.state ≠ .initializing → (s.membership.state = .listening → s.mirror.known = none) →
          t.membership = s.membership ∧ t.controller = s.controller ∧ t.queue = s.queue ∧ t.faults = s.faults)

/-- The quiet line at a known mirror (R71): sampled low it removes the quiet hold, sampled high with a CLOSE_ALL(QUIET)
observed in the slot it sets it, and otherwise the hold keeps its value; nothing else changes but the sample. -/
def Obligations.QuietLineOwnsQuietHold : Prop :=
  ∀ (s : State) (high : Bool), s.membership.state ≠ .off → s.work.ended = true →
    ∃ t, exec (.quietLineChange high) s = .next t ∧
      t = (s.withLines { s.lines with quietSample := high }).withMirror
        { s.mirror with known := t.mirror.known } ∧
      (s.mirror.known = none → t.mirror.known = none) ∧
      ∀ m, s.mirror.known = some m →
        (high = false → t.mirror.known = some { m with quietHold := false }) ∧
        (high = true → (∃ i check d, s.work.observed = some (.command i (.closeAll check .quiet d))) →
          t.mirror.known = some { m with quietHold := true }) ∧
        (high = true → (∀ i check d, s.work.observed ≠ some (.command i (.closeAll check .quiet d))) →
          t.mirror.known = some m)

/-! ### Expiries -/

/-- A LISTENING station that has heard LISTEN_WAIT silent slots with the ready line low, and is the lowest present station,
begins initialization at its first step with its mirror doubted and no fence (R47, R83); nothing else changes. -/
def Obligations.ListenWaitBeginsInitialization : Prop :=
  ∀ s : State, s.membership.state = .listening → s.work.ended = true → s.settings.listenWait ≤ s.membership.silence →
    s.lines.readySample = false → inRoster s.membership.roster s.number = true →
    (∀ n : StationNo, n < s.number → inRoster s.membership.roster n = false) →
    exec .listenWaitExpiry s =
      .next (((s.withMembership
        { s.membership with state := .initializing, initStep := some .setReadLatency }).withMirror
          { s.mirror with known := none, fence := none }).withDataUnit { s.dataUnit with fencedEntry := none })

/-- The period count rises at the end of every slot of a counting account; the slot that would bring it to REFRESH_PERIOD
returns it to 0 and raises debt, or at debt 7 records REFRESH_OVERRUN with the station the duty pointer names (R146). A slot
is counted once: a later stop of the account in the same slot finds no expiry due. -/
def Obligations.PeriodExpiryRaisesDebt : Prop :=
  (∀ s : State, s.controller.active = true → s.controller.counting = true → s.work.periodSettled = false → s.work.ended = true →
    s.timing.refreshPeriod ≤ s.controller.periodCount + 1 → s.controller.debt < 7 →
    exec .periodExpiry s =
      .next ((s.withWork { s.work with periodSettled := true }).withController
        { s.controller with periodCount := 0, debt := s.controller.debt + 1 })) ∧
    (∀ s : State, s.controller.active = true → s.controller.counting = true → s.work.periodSettled = false → s.work.ended = true →
      s.timing.refreshPeriod ≤ s.controller.periodCount + 1 → s.controller.debt = 7 →
      ∃ t, exec .periodExpiry s = .next t ∧
        t = ((s.withWork { s.work with periodSettled := true }).withController
          { s.controller with periodCount := 0 }).withFaults t.faults ∧
        FaultNoted .refreshOverrun (match s.controller.duty with | some n => n.setWidth 8 | none => 0xFF#8) s.faults t.faults) ∧
    ∀ s : State, s.controller.active = true → s.controller.counting = true → s.work.periodSettled = false →
      s.controller.periodCount + 1 < s.timing.refreshPeriod →
      countPeriod s =
          (s.withController { s.controller with periodCount := s.controller.periodCount + 1 }).withWork
            { s.work with periodSettled := true } ∧
        periodDue (countPeriod s) = false ∧ exec .periodExpiry s = .next s

/-- The slot in which an empty MEMBER's idle count reaches IDLE_WAIT casts its vote where its permission is yes (R155, R156);
nothing else changes. -/
def Obligations.IdleWaitCastsVote : Prop :=
  ∀ s : State, s.membership.state = .member → s.queue = [] → s.work.ended = true → s.work.idleSettled = false →
    s.settings.idleWait ≤ 65535 →
    s.settings.idleWait ≤ s.controller.idleCount + 1 →
    exec .idleWaitExpiry s =
      .next ((s.withWork { s.work with idleSettled := true }).withController
        { s.controller with
          idleCount := min (s.controller.idleCount + 1) 65535, vote := decide (s.controller.permission = some true) })

/-! ### Data -/

/-- The capture of a data slot of the station's own READ (R174): a burst before the last is held with its entry; the last of
a READ whose bursts all passed retires the entry with OK and the bursts in column order; the last of one of which a burst
failed sends the entry, the first time, to RETRY_WAIT with its data discarded and a read retry counted (R96); after a retry,
or in a DRAINING station, it retires with DATA_ERROR, READ_DATA_ERROR is recorded, and an EXCL_READ loses the reservation
that its READ command set (R96, R165, R174). What the lines carry is there for the memory, in this slot and in any other
(R5, notes/assumptions/10.md). -/
def Obligations.ReadBurstCaptureJudgesRead : Prop :=
  (∀ (s : State) (data : BurstData) (mask : Mask) (check : Byte) (e : Entry) (m : MemFields) (i : Nat),
    s.work.ended = true → s.work.captured = false → s.work.peerBurst = none → captureOf s = some (e, m, i) →
    QueueOpen s → (queueTags s).Nodup →
    ∃ t, exec (.readBurstCapture ⟨data, mask⟩ check) s = .next t ∧ OuterKept s t ∧ t.membership = s.membership ∧
      t.mirror = s.mirror ∧ t.dataUnit = s.dataUnit ∧ t.memory = s.memory ∧
      t.work.captured = true ∧ t.work.peerBurst = some ⟨data, mask, check⟩ ∧
      (∃ r, m.issueSlot = some r ∧ s.slot = r + s.timing.readLatency + i ∧ i < m.bursts.toNat) ∧
      (∀ (j : Nat) (x : Entry), s.queue[j]? = some x → x.tag ≠ e.tag → i + 1 < m.bursts.toNat → t.queue[j]? = some x) ∧
      (i + 1 < m.bursts.toNat →
        (∀ j : Nat, s.queue[j]? = some e →
          t.queue[j]? =
            some { e with
              mem := some { m with
                captured := m.captured ++ [data]
                captureFailed := m.captureFailed || decide (burstCheck data ≠ check) } }) ∧
          t.table = s.table ∧ t.port = s.port ∧ t.counters = s.counters ∧ t.faults = s.faults ∧ t.controller = s.controller) ∧
      (i + 1 = m.bursts.toNat → m.captureFailed = false → burstCheck data = check →
        t.queue = s.queue.filter (fun x => decide (x.tag ≠ e.tag)) ∧ t.faults = s.faults ∧ t.table = s.table ∧
          t.counters = { s.counters with requestsCompleted := s.counters.requestsCompleted + 1 } ∧
          t.port.joining = joinRetired e.order
            { kind := .retired .ok, requestKind := memKindCode m.kind, tag := e.tag, thread := m.thread
              data :=
                if m.kind = .read ∨ m.kind = .exclRead then (m.captured ++ [data]).flatMap Vector.toList else [] }
            s.port.joining) ∧
      (i + 1 = m.bursts.toNat → (m.captureFailed = true ∨ burstCheck data ≠ check) → m.retryUsed = false →
        s.membership.state ≠ .draining →
        t.counters = { s.counters with readRetries := s.counters.readRetries + 1 } ∧ t.port = s.port ∧
          t.faults = s.faults ∧ t.table = s.table ∧
          ∀ j : Nat, s.queue[j]? = some e →
            t.queue[j]? =
              some { e with
                phase := .retryWait
                mem := some { m with captured := [], captureFailed := false, retryUsed := true, retrySlot := some s.slot } }) ∧
      (i + 1 = m.bursts.toNat → (m.captureFailed = true ∨ burstCheck data ≠ check) →
        (m.retryUsed = true ∨ s.membership.state = .draining) →
        t.queue = s.queue.filter (fun x => decide (x.tag ≠ e.tag)) ∧
          FaultNoted .readDataError (e.tag.setWidth 8) s.faults t.faults ∧
          t.counters = { s.counters with requestsCompleted := s.counters.requestsCompleted + 1 } ∧
          t.port.joining = joinRetired e.order
            { kind := .retired .dataError, requestKind := memKindCode m.kind, tag := e.tag, thread := m.thread, data := [] }
            s.port.joining ∧
          t.table.lastWrite = s.table.lastWrite ∧ (m.kind ≠ .exclRead → t.table = s.table) ∧
          (m.kind = .exclRead → ∀ r, r ∈ t.table.reservations ↔
            r ∈ s.table.reservations ∧ ¬(r.thread = m.thread ∧ some r.setOrder = m.issueSlot)))) ∧
    ∀ (s : State) (lines : DataLines) (check : Byte), s.work.ended = true → s.work.captured = false →
      s.work.peerBurst = none → captureOf s = none →
      exec (.readBurstCapture lines check) s =
        .next (s.withWork { s.work with peerBurst := some ⟨lines.data, lines.mask, check⟩ })

/-- In a data slot of the station's own WRITE it drives the entry's burst for that slot with its mask and the check computed
over its bytes, and nothing else changes (R176). The burst check is the CRC of R173 over the 64 bytes in address order: the
register starts at 0, each byte is combined with it by exclusive-or, and it is shifted left eight times, with 0x07 combined
after each shift whose outgoing bit was 1. Byte j is bits 8 (j mod 8) to 8 (j mod 8) + 7 of word j / 8 (R195). -/
def Obligations.WriteBurstDriveDrivesBurst : Prop :=
  (∀ (s : State) (before after : List Entry) (e : Entry) (m : MemFields) (w i : Nat) (b : WriteBurst),
    s.queue = before ++ e :: after → (∀ x ∈ before, driveOfEntry s x = none) → e.phase = .writeIssued → e.mem = some m →
    m.issueSlot = some w → s.slot = w + s.timing.writeLatency + i → i < m.bursts.toNat → m.writeData[i]? = some b →
    s.dataUnit.driving = none →
    exec .writeBurstDrive s =
      .next (s.withDataUnit { s.dataUnit with driving := some ⟨b.data, b.mask, burstCheck b.data⟩ })) ∧
    (∀ d : BurstData,
      burstCheck d =
        (List.range 64).foldl
          (fun r j =>
            (List.range 8).foldl (fun r _ => if r.msb then (r <<< 1) ^^^ 0x07#8 else r <<< 1) (r ^^^ burstByte d j)) 0#8) ∧
    ∀ (d : BurstData) (j b : Nat), j < 64 → b < 8 →
      (burstByte d j).getLsbD b = (d.toList.getD (j / 8) 0).getLsbD (8 * (j % 8) + b)

/-- An entry whose alert window expires clean retires with OK, an EXCL_WRITE with EXOKAY (R97, R177); no other entry
changes. A FENCE that stood behind it retires with OK at the same time where no older entry remains, and stays where one
does (R103). -/
def Obligations.CleanWindowRetiresWrite : Prop :=
  (∀ (s : State) (e : Entry) (m : MemFields) (w : Nat), s.work.ended = true → e ∈ s.queue → e.phase = .writeIssued →
    e.mem = some m →
    m.issueSlot = some w → w + s.timing.alertWindow ≤ s.slot → QueueOpen s → (queueTags s).Nodup →
    (∀ x ∈ s.queue, windowExpired s.timing.alertWindow s.slot x = true → x = e) →
    ∃ t, exec .alertWindowExpiry s = .next t ∧ OuterKept s t ∧
      t.queue = s.queue.filter (fun x => decide (x.tag ≠ e.tag)) ∧
      t.port.joining = joinRetired e.order
        { kind := .retired (if m.kind = .exclWrite then .exokay else .ok), requestKind := memKindCode m.kind, tag := e.tag,
          thread := m.thread,
          data := if m.kind = .exclWrite ∨ m.kind = .write then [] else m.captured.flatMap Vector.toList } s.port.joining ∧
      t.counters = { s.counters with requestsCompleted := s.counters.requestsCompleted + 1 } ∧
      t.membership = s.membership ∧ t.mirror = s.mirror ∧ t.table = s.table ∧ t.dataUnit = s.dataUnit ∧
      t.faults = s.faults ∧ t.memory = s.memory) ∧
    ∀ (s : State) (before after : List Entry) (e f : Entry) (m : MemFields), s.work.ended = true →
      s.queue = before ++ e :: f :: after → (∀ x ∈ before ++ after, x.phase.answered = none ∧ x.mem.isSome = true) →
      e.mem = some m → windowExpired s.timing.alertWindow s.slot e = true →
      (∀ x ∈ before ++ after, windowExpired s.timing.alertWindow s.slot x = false) → f.mem = none → f.phase = .waiting →
      f.joined < s.slot →
      ∃ t, exec .alertWindowExpiry s = .next t ∧ t.queue = (if before = [] then after else before ++ f :: after) ∧
        (before ≠ [] →
          t.counters.requestsCompleted = s.counters.requestsCompleted + 1) ∧
        (before = [] →
          t.counters.requestsCompleted = s.counters.requestsCompleted + 2 ∧
            .retired f.order { kind := .retired .ok, requestKind := 4, tag := f.tag, thread := 0, data := [] } ∈
              t.port.joining)

/-- A fence stands up to the slot before its limit slot and is removed at the limit slot, with the fenced entry (R184, R185).
At a holder other than the issuer the removal records ORPHAN_WRITE unless the fence is final; at the issuer the fenced entry
still in RETRY_WAIT goes to DONE with DATA_ERROR, recorded as WRITE_DATA_ERROR; for a final fence that record is the model's
choice (notes/assumptions/54.md). -/
def Obligations.FenceLimitRemovesFence : Prop :=
  (∀ s : State, NothingExpires s → exec .fenceLimitExpiry s = .next s) ∧
    ∀ (s : State) (f : WriteFence), s.mirror.fence = some f → f.limit ≤ s.slot →
      ∃ t, exec .fenceLimitExpiry s = .next t ∧ OuterKept s t ∧ t.mirror = { s.mirror with fence := none } ∧
        t.dataUnit.fencedEntry = none ∧ t.membership = s.membership ∧ t.table = s.table ∧ t.controller = s.controller ∧
        t.port = s.port ∧ t.counters = s.counters ∧ t.memory = s.memory ∧
        (f.issuer ≠ s.number → t.queue = s.queue ∧ (f.final = true → t.faults = s.faults) ∧
          (f.final = false → FaultNoted .orphanWrite (f.issuer.setWidth 8) s.faults t.faults)) ∧
        (f.issuer = s.number → s.dataUnit.fencedEntry = none → t.queue = s.queue ∧ t.faults = s.faults) ∧
        (∀ e, f.issuer = s.number → s.dataUnit.fencedEntry = some e.tag →
          s.queue.find? (fun x => decide (x.tag = e.tag)) = some e →
          (e.phase ≠ .retryWait → t.queue = s.queue ∧ t.faults = s.faults) ∧
          (e.phase = .retryWait →
            t.queue = s.queue.map (fun x => if x.tag = e.tag then { x with phase := .done .dataError } else x) ∧
              FaultNoted .writeDataError (e.tag.setWidth 8) s.faults t.faults))

/-! ### Ends of a drain and of a leave -/

/-- A drain with an empty queue ends at its target (R57): WITHDRAWN, or LISTENING by way of the held record (R59), which
keeps a station whose presence line is driven out of the duplicate-number check (in the slot that entered DETACHED or
WITHDRAWN too, notes/assumptions/20.md), and with the quiet permission at its initial value in each case (R59; with no
configuration loaded, notes/assumptions/15.md); a LEAVING station's empty queue detaches it (R55). In each case the mirror
is doubted, the table emptied, the fence removed, the account stopped and the vote withdrawn. -/
def Obligations.DrainAndLeaveEnd : Prop :=
  (∀ s : State, s.membership.state = .draining → s.work.ended = true → s.queue = [] →
    ∃ t, exec .drainComplete s = .next t ∧ OuterKept s t ∧ t.queue = [] ∧ t.port = s.port ∧ t.counters = s.counters ∧
      t.memory = s.memory ∧ t.mirror = { s.mirror with known := none, fence := none } ∧ t.table = s.table.emptied ∧
      t.controller.active = false ∧ t.controller.debt = 0 ∧ t.controller.vote = false ∧
      t.membership.roster = s.membership.roster ∧ t.membership.drainTarget = none ∧
      (s.membership.drainTarget = some .withdrawn →
        t.membership.state = .withdrawn ∧ t.controller.duty = none ∧ t.controller.permission = s.controller.permission) ∧
      (s.membership.drainTarget = some .listening →
        (∀ c, s.loader.settings = some c → t.controller.permission = some c.quietPermit) ∧
          ∀ r, s.loader.settings = none → s.loader.record = some r →
            t.controller.permission = some (decide (recordField r 21 = 1))) ∧
      (∀ r, s.membership.drainTarget = some .listening → s.loader.record = some r → judgeRecord r = none →
        (s.lines.presence = true ∨ inRoster s.membership.roster s.number = false →
          t.membership.state = .listening ∧ t.membership.silence = 0) ∧
        (s.lines.presence = false → inRoster s.membership.roster s.number = true →
          t.membership.state = .withdrawn ∧
            (t.faults.kinds &&& FaultKind.duplicateNumber.bit = FaultKind.duplicateNumber.bit))) ∧
      (∀ r d, s.membership.drainTarget = some .listening → s.loader.record = some r → judgeRecord r = some d →
        t.membership.state = .withdrawn ∧
          (t.faults.kinds &&& FaultKind.badStartRecord.bit = FaultKind.badStartRecord.bit))) ∧
    ∀ s : State, s.membership.state = .leaving → s.work.ended = true → s.queue = [] →
      ∃ t, exec .detach s = .next t ∧ OuterKept s t ∧ t.queue = [] ∧ t.port = s.port ∧ t.counters = s.counters ∧
        t.memory = s.memory ∧ t.mirror = { s.mirror with known := none, fence := none } ∧ t.table = s.table.emptied ∧
        t.membership =
          { s.membership with state := .detached, initStep := none, drainTarget := none, leaveDoubt := false } ∧
        t.controller.active = false ∧ t.controller.debt = 0 ∧ t.controller.duty = none ∧ t.controller.vote = false

/-! ### Memory requests -/

/-- A memory request that passes every check of R90 joins the young end of the queue with the fields of R91, and the quiet
vote is withdrawn (R156): a READ or an EXCL_READ with its header, a WRITE or an EXCL_WRITE with the last of its data words;
a FENCE that passes its own checks joins likewise. In the last slot of LOADING the state that the record, once judged, has left
is the one checked, by the model's choice (notes/assumptions/49.md). Nothing else of the station changes. A FENCE with no older entry retires
with OK at the end of the slot, that of its admission too (R103). -/
def Obligations.AcceptedRequestJoinsQueue : Prop :=
  ((∀ (s : State) (kind : MemKind) (tag : Tag) (thread : Thread) (bursts : BurstCount) (urgent : Bool) (address : Address)
    (words : List PortWord), PortReady s → kind = .read ∨ kind = .exclRead → Accepted s kind tag bursts address →
    ∃ t, exec (memRequest kind tag thread bursts urgent address words) s = .next t ∧ PortKept s t ∧
      t.controller = { s.controller with vote := false } ∧
      t.port = { s.port with inProgress := none, admitted := s.port.admitted + 1 } ∧
      t.queue =
        s.queue ++ [acceptedEntry s kind tag thread bursts (urgent && decide (kind = .read)) address []]) ∧
    (∀ (s : State) (p : PartialWrite) (word : PortWord), PortReady s → s.port.inProgress = some p →
      p.words.length + 1 = 9 * p.bursts.toNat → Accepted s p.kind p.tag p.bursts p.address →
      ∃ t, exec (.strayWordDiscard word) s = .next t ∧ PortKept s t ∧
        t.controller = { s.controller with vote := false } ∧
        t.port = { s.port with inProgress := none, admitted := s.port.admitted + 1 } ∧
        t.queue =
          s.queue ++ [acceptedEntry s p.kind p.tag p.thread p.bursts p.urgent p.address (p.words ++ [word])]) ∧
    ∀ (s : State) (tag : Tag), PortReady s → Admitting s.membership.state → tag ∉ queueTags s → s.queue.length < 16 →
      ∃ t, exec (.fence tag) s = .next t ∧ PortKept s t ∧ t.controller = { s.controller with vote := false } ∧
        t.port = { s.port with inProgress := none, admitted := s.port.admitted + 1 } ∧
        t.queue = s.queue ++ [{ tag := tag, phase := .waiting, mem := none, joined := s.slot, order := s.port.admitted }]) ∧
    ∀ (s : State) (f : Entry), s.pending = [] → s.membership.state = .member ∨ s.membership.state = .resync → s.queue = [f] →
      f.mem = none → f.phase = .waiting →
      ∃ t before after, step s = .next t ∧ t.queue = [] ∧
        t.port.responses =
          before ++ { kind := .retired .ok, requestKind := 4, tag := f.tag, thread := 0, data := [] } :: after

/-- The first failing check of R90, in its order, gives the reason a memory request is refused with (R41, R90, R92), a FENCE's
after its three checks; a request of an undefined kind is refused with RANGE (R188). A write kind is checked with the last
of its data words, one of no bursts with its header. In the last slot of LOADING the state that the record, once judged, has
left is the one checked, by the model's choice (notes/assumptions/49.md). A refusal makes one response and changes nothing else, and no word is
taken while the take line is low (R186). -/
def Obligations.RefusedRequestIsAnswered : Prop :=
  (∀ (s : State) (kind : MemKind) (tag : Tag) (thread : Thread) (bursts : BurstCount) (urgent : Bool) (address : Address)
    (words : List PortWord) (r : RefusalReason), PortReady s →
    kind = .read ∨ kind = .exclRead ∨ (bursts = 0 ∧ words = []) → Refused s kind tag bursts address r →
    exec (memRequest kind tag thread bursts urgent address words) s =
      .next (withResponse
        { kind := .refused r, requestKind := memKindCode kind, tag := tag, thread := thread, data := [] } (wordTaken s))) ∧
    (∀ (s : State) (p : PartialWrite) (word : PortWord) (r : RefusalReason), PortReady s → s.port.inProgress = some p →
      p.words.length + 1 = 9 * p.bursts.toNat → Refused s p.kind p.tag p.bursts p.address r →
      exec (.strayWordDiscard word) s =
        .next (withResponse
          { kind := .refused r, requestKind := memKindCode p.kind, tag := p.tag, thread := p.thread, data := [] }
          (wordTaken s))) ∧
    (∀ (s : State) (tag : Tag) (r : RefusalReason), PortReady s → RefusedFirst s tag r →
      exec (.fence tag) s =
        .next (withResponse { kind := .refused r, requestKind := 4, tag := tag, thread := 0, data := [] } (wordTaken s))) ∧
    (∀ (s : State) (kind : BitVec 4) (tag : Tag), PortReady s →
      exec (.undefinedRequestKind kind tag) s =
        .next (withResponse { kind := .refused .range, requestKind := kind, tag := tag, thread := 0, data := [] }
          (wordTaken s))) ∧
    ∀ (s : State) (kind : MemKind) (tag : Tag) (thread : Thread) (bursts : BurstCount) (urgent : Bool) (address : Address)
      (words : List PortWord), ¬PortOpen s → exec (memRequest kind tag thread bursts urgent address words) s = .next s

/-- A write request that lacks data words is in progress, each word taken using a position of the path; a data word goes to
it, and with no request in progress it is discarded (R186). The words of a request follow its header in the positions left
to them, eight a slot: the request with one more word is the request without it followed by that word, in the next slot
where the positions are used up. The last word delivers the request (AcceptedRequestJoinsQueue,
RefusedRequestIsAnswered). -/
def Obligations.DataWordsCompleteRequest : Prop :=
  (∀ (s : State) (tag : Tag) (thread : Thread) (bursts : BurstCount) (urgent : Bool) (address : Address)
    (words : List PortWord), PortReady s → s.work.positions + 1 + words.length ≤ 8 → words.length < 9 * bursts.toNat →
    exec (.writeRequest tag thread bursts urgent address words) s =
        .next ((s.withWork { s.work with positions := s.work.positions + 1 + words.length }).withPort
          { s.port with inProgress := some ⟨false, tag, thread, bursts, urgent, address, words⟩ }) ∧
      exec (.exclWriteRequest tag thread bursts address words) s =
        .next ((s.withWork { s.work with positions := s.work.positions + 1 + words.length }).withPort
          { s.port with inProgress := some ⟨true, tag, thread, bursts, false, address, words⟩ })) ∧
    (∀ (s : State) (tag : Tag) (thread : Thread) (bursts : BurstCount) (urgent : Bool) (address : Address)
      (words : List PortWord) (word : PortWord), PortOpen s →
      (∃ u, exec (.writeRequest tag thread bursts urgent address words) s = .next u ∧
        exec (.writeRequest tag thread bursts urgent address (words ++ [word])) s =
          exec (.strayWordDiscard word) (if 8 ≤ u.work.positions then endSlot u else u)) ∧
      ∃ u, exec (.exclWriteRequest tag thread bursts address words) s = .next u ∧
        exec (.exclWriteRequest tag thread bursts address (words ++ [word])) s =
          exec (.strayWordDiscard word) (if 8 ≤ u.work.positions then endSlot u else u)) ∧
    (∀ (s : State) (word : PortWord), ¬PortOpen s → exec (.strayWordDiscard word) s = .next s) ∧
    (∀ (s : State) (word : PortWord), PortReady s → s.port.inProgress = none →
      exec (.strayWordDiscard word) s = .next (s.withWork { s.work with positions := s.work.positions + 1 })) ∧
    ∀ (s : State) (word : PortWord) (p : PartialWrite), PortReady s → s.port.inProgress = some p →
      p.words.length + 1 < 9 * p.bursts.toNat →
      exec (.strayWordDiscard word) s =
        .next ((wordTaken s).withPort { s.port with inProgress := some { p with words := p.words ++ [word] } })

/-! ### Station requests -/

/-- A QUIET_PERMIT is refused with BAD_STATE in LOADING and changes nothing there; in every other state it is answered OK and
the permission takes the value, which a MEMBER's vote follows at once (R156, R157). That the last slot of LOADING counts as
the state that its record has left, once that is taken, is the model's choice (notes/assumptions/49.md). -/
def Obligations.QuietPermitSetsPermission : Prop :=
  ∀ (s : State) (tag : Tag) (value : Bool), PortReady s →
    (s.membership.state = .loading →
      exec (.quietPermit tag value) s =
        .next (withResponse { kind := .refused .badState, requestKind := 5, tag := tag, thread := 0, data := [] }
          (wordTaken s))) ∧
    (s.membership.state ≠ .loading →
      exec (.quietPermit tag value) s =
        .next (withResponse { kind := .retired .ok, requestKind := 5, tag := tag, thread := 0, data := [] }
          ((wordTaken s).withController
            { s.controller with
              permission := some value
              vote :=
                decide (s.membership.state = .member) && value && s.queue.isEmpty &&
                  decide (s.settings.idleWait ≤ s.controller.idleCount) })))

/-- A LEAVE takes a MEMBER to LEAVING with its vote withdrawn (R53), and a JOIN takes a DETACHED station to LISTENING, or to
WITHDRAWN with DUPLICATE_NUMBER where its number is in use (R39, R60), its own line of the very slot of the DETACH included
(notes/assumptions/20.md); in any other state each is refused with BAD_STATE and changes no state (R41, R42). -/
def Obligations.LeaveAndJoinChangeState : Prop :=
  ∀ (s : State) (tag : Tag), PortReady s →
    (s.membership.state = .member →
      exec (.leave tag) s =
        .next (withResponse { kind := .retired .ok, requestKind := 6, tag := tag, thread := 0, data := [] }
          (((wordTaken s).withMembership { s.membership with state := .leaving }).withController
            { s.controller with vote := false }))) ∧
    (s.membership.state ≠ .member →
      exec (.leave tag) s =
        .next (withResponse { kind := .refused .badState, requestKind := 6, tag := tag, thread := 0, data := [] }
          (wordTaken s))) ∧
    (s.membership.state ≠ .detached →
      exec (.join tag) s =
        .next (withResponse { kind := .refused .badState, requestKind := 7, tag := tag, thread := 0, data := [] }
          (wordTaken s))) ∧
    (s.membership.state = .detached →
      ∃ t, exec (.join tag) s = .next t ∧ OuterKept s t ∧ t.queue = s.queue ∧ t.counters = s.counters ∧
        t.memory = s.memory ∧ t.membership.roster = s.membership.roster ∧ t.mirror.known = none ∧
        t.port =
          { s.port with
            inProgress := none
            joining :=
              s.port.joining ++ [.made { kind := .retired .ok, requestKind := 7, tag := tag, thread := 0, data := [] }] } ∧
        (inRoster s.membership.roster s.number = false → t.membership.state = .listening ∧ t.membership.silence = 0) ∧
        (inRoster s.membership.roster s.number = true →
          t.membership.state = .withdrawn ∧
            (t.faults.kinds &&& FaultKind.duplicateNumber.bit = FaultKind.duplicateNumber.bit)))

/-- A RESTART is refused in LOADING; in DRAINING it sets the target to LISTENING (R59); in every other state it takes the
station to DRAINING with target LISTENING, the mirror doubted, the table emptied, the fence removed, the vote withdrawn and
every waiting entry answered ABORTED (R56, R58, R98), and is answered OK (R42). In the last slot of LOADING the state that the
record, once judged, has left counts, by the model's choice (notes/assumptions/49.md). The straps sample, the record and the loaded
configuration stay. -/
def Obligations.RestartDrainsToListening : Prop :=
  ∀ (s : State) (tag : Tag), PortReady s →
    (s.membership.state = .loading →
      exec (.restart tag) s =
        .next (withResponse { kind := .refused .badState, requestKind := 8, tag := tag, thread := 0, data := [] }
          (wordTaken s))) ∧
    (s.membership.state = .draining →
      exec (.restart tag) s =
        .next (withResponse { kind := .retired .ok, requestKind := 8, tag := tag, thread := 0, data := [] }
          ((wordTaken s).withMembership { s.membership with drainTarget := some .listening }))) ∧
    (s.membership.state ≠ .off → s.membership.state ≠ .loading → s.membership.state ≠ .draining →
      ∃ t, exec (.restart tag) s = .next t ∧ OuterKept s t ∧ t.memory = s.memory ∧
        t.membership =
          { s.membership with
            state := .draining, initStep := none, drainTarget := some .listening, leaveDoubt := false } ∧
        t.mirror.known = none ∧ t.mirror.kept = s.mirror.kept ∧ t.mirror.fence = none ∧ t.table.reservations = [] ∧
        t.controller.vote = false ∧
        (∃ js, s.port.joining.Sublist js ∧
          t.port =
            { s.port with
              inProgress := none
              joining := js ++ [.made { kind := .retired .ok, requestKind := 8, tag := tag, thread := 0, data := [] }] }) ∧
        (∀ e ∈ t.queue, e ∈ s.queue) ∧ (∀ e ∈ t.queue, e.phase = .readIssued ∨ e.phase = .writeIssued) ∧
        ((∀ e ∈ s.queue, e.phase = .waiting) →
          t.queue = [] ∧ t.faults = s.faults ∧
            t.port.joining =
              abortedAnswers s.queue s.port.joining ++
                [.made { kind := .retired .ok, requestKind := 8, tag := tag, thread := 0, data := [] }] ∧
            t.counters =
              { s.counters with
                requestsCompleted := s.counters.requestsCompleted + BitVec.ofNat 32 s.queue.length }))

/-- A REPORT's response joins at the end of its slot with a record made from every field as the slot leaves it (R189, R197):
each field of the six words, and the step on an empty queue, which appends the response. A CLEAR is answered OK, empties the
fault record and leaves the counters (R190). -/
def Obligations.ReportAndClear : Prop :=
  (∀ (s : State) (tag : Tag), PortReady s →
    exec (.report tag) s = .next ((wordTaken s).withPort
      { s.port with inProgress := none, joining := s.port.joining ++ [.report tag] })) ∧
    (∀ (s : State) (tag : Tag), s.pending = [] → s.membership.state ≠ .off → .report tag ∈ s.port.joining →
      ∃ t before after, step s = .next t ∧
        t.port.responses =
          before ++ { kind := .retired .ok, requestKind := 9, tag := tag, thread := 0, data := reportRecord t } :: after ∧
        s.port.responses.length ≤ before.length) ∧
    (∀ s : State, ∃ w0 w1 w2 w3 w4 w5, reportRecord s = [w0, w1, w2, w3, w4, w5] ∧
      w0.extractLsb' 60 4 =
        (match s.membership.state with
        | .off => 0 | .loading => 1 | .listening => 2 | .initializing => 3 | .member => 4 | .resync => 5 | .leaving => 6
        | .draining => 7 | .detached => 8 | .withdrawn => 9) ∧
      w0.extractLsb' 58 2 =
        (match s.mirror.known.map KnownMirror.channel with
        | none => 0 | some .initializing => 1 | some .running => 2 | some .sleeping => 3) ∧
      w0.extractLsb' 55 3 = s.number ∧ w0.extractLsb' 47 8 = s.membership.roster ∧
      w0.extractLsb' 43 4 = (match s.controller.duty with | none => 15 | some n => n.setWidth 4) ∧
      w0.extractLsb' 40 3 = BitVec.ofNat 3 s.controller.debt ∧ w0.extractLsb' 35 5 = BitVec.ofNat 5 s.queue.length ∧
      w0.extractLsb' 32 3 = BitVec.ofNat 3 s.table.reservations.length ∧ w0.getLsbD 31 = s.controller.vote ∧
      (w0.getLsbD 30 = true ↔ s.controller.permission = some true) ∧ w0.getLsbD 29 = s.membership.leaveDoubt ∧
      (w0.getLsbD 28 = true ↔ s.membership.drainTarget = some .withdrawn) ∧ w0.getLsbD 27 = s.lines.readySample ∧
      w0.getLsbD 26 = s.lines.quietSample ∧ w0.extractLsb' 0 26 = 0 ∧
      (s.faults.first = none → w1.extractLsb' 52 12 = 0) ∧
      (∀ k d, s.faults.first = some (k, d) →
        w1.extractLsb' 60 4 =
          (match k with
          | .badStartRecord => 1 | .duplicateNumber => 2 | .configMismatch => 3 | .claimFault => 4 | .mirrorFault => 5
          | .commandAlert => 6 | .refreshOverrun => 7 | .readDataError => 8 | .writeDataError => 9 | .orphanWrite => 10) ∧
          w1.extractLsb' 52 8 = d) ∧
      w1.extractLsb' 42 10 = s.faults.kinds ∧ w1.extractLsb' 0 42 = 0 ∧
      w2.extractLsb' 32 32 = s.counters.claimsWon ∧ w2.extractLsb' 0 32 = s.counters.claimsLost ∧
      w3.extractLsb' 32 32 = s.counters.requestsCompleted ∧ w3.extractLsb' 0 32 = s.counters.exclusiveFailures ∧
      w4.extractLsb' 32 32 = s.counters.readRetries ∧ w4.extractLsb' 0 32 = s.counters.writeRetries ∧
      w5.extractLsb' 32 32 = s.counters.resyncs ∧ w5.extractLsb' 0 32 = s.counters.refreshesIssued) ∧
    ∀ (s : State) (tag : Tag), PortReady s →
      exec (.clear tag) s =
        .next (withResponse { kind := .retired .ok, requestKind := 10, tag := tag, thread := 0, data := [] }
          ((wordTaken s).withFaults { s.faults with first := none, kinds := 0 }))

/-- With accept high the response path carries the next words of the oldest response, header first, up to eight, and the
response leaves the list with its last word (R187); with nothing to send the list stays empty. The header's start mark is
high and those of the data words low (R187), and the header carries the response, the reason, the kind code, the tag, the
thread and the number of data words (R196). A retired entry's response joins those of the slot before any of a younger
entry, and takes none away (R188). -/
def Obligations.ResponseSendDrainsOldest : Prop :=
  (∀ s : State, s.work.responded = false →
    (s.port.responses = [] → exec .responseSend s = .next (s.withWork { s.work with responded := true })) ∧
    ∀ (r : Response) (rest : List Response), s.port.responses = r :: rest →
      ((r.data.length + 1 ≤ s.port.sent + 8 →
        exec .responseSend s =
          .next ((s.withWork { s.work with responded := true }).withPort
            { s.port with
              responsePath := (responseWords r).drop s.port.sent, responses := rest, sent := 0 })) ∧
      (s.port.sent + 8 < r.data.length + 1 →
        exec .responseSend s =
          .next ((s.withWork { s.work with responded := true }).withPort
            { s.port with
              responsePath := ((responseWords r).drop s.port.sent).take 8, sent := s.port.sent + 8 })))) ∧
    (∀ r : Response, ∃ h, responseWords r = (true, h) :: r.data.map (fun w => (false, w)) ∧
      h.extractLsb' 61 3 =
        (match r.kind with
        | .retired .ok => 0 | .retired .exokay => 1 | .retired .exfail => 2 | .retired .dataError => 3
        | .retired .aborted => 4 | .refused _ => 5) ∧
      h.extractLsb' 58 3 =
        (match r.kind with
        | .retired _ => 0 | .refused .starting => 0 | .refused .notMember => 1 | .refused .full => 2
        | .refused .tagInUse => 3 | .refused .align => 4 | .refused .range => 5 | .refused .access => 6
        | .refused .badState => 7) ∧
      h.extractLsb' 54 4 = r.requestKind ∧ h.extractLsb' 49 5 = r.tag ∧ h.extractLsb' 45 4 = r.thread ∧
      h.extractLsb' 39 6 = BitVec.ofNat 6 r.data.length ∧ h.extractLsb' 0 39 = 0) ∧
    (memKindCode .read = 0 ∧ memKindCode .write = 1 ∧ memKindCode .exclRead = 2 ∧ memKindCode .exclWrite = 3) ∧
    ∀ (order : Nat) (r : Response) (js : List Joining), ∃ before after, js = before ++ after ∧
      joinRetired order r js = before ++ .retired order r :: after ∧ (∀ o x, .retired o x ∈ before → o ≤ order) ∧
      (after = [] ∨ ∃ o x rest, after = .retired o x :: rest ∧ order < o)

/-! ### Reset and loading -/

/-- HARD_RESET takes every block to its reset values (R27, R37, R65, R89, R142, R144, R162, R172, R186, R187, R191, R192)
and reaches neither the channel memory (R12), nor what another station drives on the data lines (R5), nor the steps that
wait; RESET_RELEASE begins slot 0 in LOADING with the straps, the roster of the first samples and the read begun, select and
the serial clock driven (R1, R25, R26, R37, R40, R198), from OFF alone. The slot count, the line samples and the admission
count that a reset leaves are the model's choice (notes/assumptions/17.md). -/
def Obligations.ResetAndRelease : Prop :=
  (∀ s : State, ∃ t, exec .hardReset s = .next t ∧ t.pending = s.pending ∧ t.memory = s.memory ∧ t.slot = 0 ∧
    t.membership =
      { state := .off, roster := 0, silence := 0, initStep := none, drainTarget := none, leaveDoubt := false } ∧
    t.loader =
      { straps := none, record := none, settings := none, selected := false, serialOut := false, serialClock := false } ∧
    t.queue = [] ∧ t.table = { reservations := [], lastWrite := none } ∧
    t.mirror = { known := none, kept := none, fence := none } ∧
    t.dataUnit = { attribution := none, fencedEntry := none, lastAlerted := none, driving := none } ∧
    t.work = { SlotWork.fresh with peerBurst := s.work.peerBurst } ∧
    t.lines = { readySample := false, quietSample := false, presence := false, ready := false, quietReleased := false } ∧
    t.port =
      { take := false, inProgress := none, admitted := 0, joining := [], responses := [], sent := 0, responsePath := [] } ∧
    t.faults = { first := none, kinds := 0, attention := false } ∧
    t.controller =
      { active := false, debt := 0, counting := false, periodCount := 0, duty := none, permission := none, idleCount := 0,
        vote := false } ∧
    t.counters =
      { claimsWon := 0, claimsLost := 0, requestsCompleted := 0, exclusiveFailures := 0, readRetries := 0,
        writeRetries := 0, resyncs := 0, refreshesIssued := 0 }) ∧
    (∀ (s : State) (straps : StationNo) (presence : StationSet), s.membership.state = .off →
      exec (.resetRelease straps presence) s =
        .next (((s.withSlot 0).withLoader
          { s.loader with
            straps := some straps, selected := true, serialOut := Config.readRequest.msb, serialClock := true }).withMembership
            { s.membership with state := .loading, roster := presence })) ∧
    ∀ (s : State) (straps : StationNo) (presence : StationSet), s.membership.state ≠ .off →
      exec (.resetRelease straps presence) s = .next s

/-- The bits of the record, as the last of them arrives in the 720th slot of the read (R26), make its words, word 0 first,
each bit 15 first (R198); a step that comes sooner stands for the slots up to then (notes/assumptions/8.md). A good record
becomes the loaded configuration with its resync hold and digest (R33, R34), the permission and the arrival values of the
kept fields (R65), and the station LISTENING with silence 0 where its number is free (R38, R43); where its number is in the
roster the station withdraws with DUPLICATE_NUMBER (R39). -/
def Obligations.GoodRecordIsLoaded : Prop :=
  (∀ (bits : SerialRecord) (k b : Nat), k < 44 → b < 16 →
    ((recordOfBits bits).toList.getD k 0).getLsbD b = bits.getLsbD (703 - (16 * k + (15 - b)))) ∧
  (∀ (s : State) (bits : SerialRecord), s.membership.state = .loading → s.slot < 719 →
    (passSlots (719 - s.slot) s).slot = 719 ∧ (passSlots (719 - s.slot) s).membership.state = .loading ∧
      exec (.startRecordReadComplete bits) s = exec (.startRecordReadComplete bits) (passSlots (719 - s.slot) s)) ∧
  ∀ (s : State) (bits : SerialRecord) (r : Record), s.membership.state = .loading → 719 ≤ s.slot → r = recordOfBits bits →
    judgeRecord r = none → s.controller.active = false →
    ∃ t c, exec (.startRecordReadComplete bits) s = .next t ∧
      t.loader =
        { s.loader with
          record := some r, settings := some c, selected := false, serialOut := false, serialClock := false } ∧
      c.timing =
        { openDelay := recordField r 1, rowHold := recordField r 2, closeDelay := recordField r 3
          writeRecovery := recordField r 4, readLatency := recordField r 5, writeLatency := recordField r 6
          turnRW := recordField r 7, turnWR := recordField r 8, openSpacing := recordField r 9
          alertWindow := recordField r 10, writeSpacing := recordField r 11, refreshBusy := recordField r 12
          refreshPeriod := recordField r 13, wakeDelay := recordField r 14 } ∧
      c.idleWait = recordField r 15 ∧ c.listenWait = recordField r 16 ∧ c.ageStep = recordField r 17 ∧
      c.ageMax = recordField r 18 ∧ c.guardMax = recordField r 19 ∧
      (c.priorityPermit = true ↔ recordField r 20 = 1) ∧ (c.quietPermit = true ↔ recordField r 21 = 1) ∧
      c.windows.length = recordField r 22 ∧
      (∀ n : Nat, n < recordField r 22 →
        c.windows[n]? =
          some
            { base := recordField r (23 + 5 * n) * 65536 + recordField r (24 + 5 * n)
              limit := recordField r (25 + 5 * n) * 65536 + recordField r (26 + 5 * n)
              rights := recordField r (27 + 5 * n) }) ∧
      c.resyncHold = max (recordField r 2) (recordField r 6 + 4 + recordField r 4) ∧
      c.digest.toNat = (((List.range 14).map fun k => (k + 1) * recordField r (k + 1)).sum) % 65536 ∧
      t.controller.permission = some c.quietPermit ∧
      t.mirror =
        { known := none
          kept :=
            some
              { dataFree :=
                  s.slot + max (recordField r 5) (recordField r 6) + 4 + max (recordField r 7) (recordField r 8)
                lastDirection := none
                earliestOpenAny := s.slot + recordField r 9
                earliestWriteAny := s.slot + recordField r 11
                commandBlockUntil := s.slot + max (recordField r 12) (recordField r 14)
                lastOpenOrWrite := some s.slot
                sleepSeen := false
                newerIssuer := none
                olderIssuer := none }
          fence := none } ∧
      t.membership.roster = s.membership.roster ∧ t.queue = s.queue ∧ t.port = s.port ∧ t.counters = s.counters ∧
      t.memory = s.memory ∧ t.lines = s.lines ∧ t.pending = s.pending ∧ t.slot = s.slot ∧
      (inRoster s.membership.roster s.number = false →
        t.membership.state = .listening ∧ t.membership.silence = 0 ∧ t.faults = s.faults) ∧
      (inRoster s.membership.roster s.number = true →
        t.membership.state = .withdrawn ∧ FaultNoted .duplicateNumber (s.number.setWidth 8) s.faults t.faults)

/-- A record that fails a test withdraws the station with BAD_START_RECORD and the failing word as detail; the words are
kept and no configuration is loaded (R32). The format word is tested first, with detail 0, and the record check second, with
detail 43 (R29); then the range of each field in word order and of each used window, with the field's first word (R30); then
the relations between fields, in their order (R31). A record is good exactly when all pass. A device that does not answer
gives all ones, which fail with detail 0, and the read ends in its 720th slot whatever the device does (R26). Outside
LOADING the step changes nothing. -/
def Obligations.BadRecordWithdraws : Prop :=
  ((∀ (s : State) (bits : SerialRecord) (r : Record) (d : Nat), s.membership.state = .loading → 719 ≤ s.slot →
    r = recordOfBits bits → judgeRecord r = some d → s.controller.active = false →
    ∃ t, exec (.startRecordReadComplete bits) s = .next t ∧
      t.loader =
        { s.loader with record := some r, selected := false, serialOut := false, serialClock := false } ∧
      t.membership.state = .withdrawn ∧ t.membership.roster = s.membership.roster ∧
      t.mirror = { s.mirror with known := none, fence := none } ∧
      FaultNoted .badStartRecord (BitVec.ofNat 8 d) s.faults t.faults ∧ t.queue = s.queue ∧ t.port = s.port ∧
      t.counters = s.counters ∧ t.memory = s.memory) ∧
    (∀ r : Record, recordField r 0 ≠ 1 → judgeRecord r = some 0) ∧
    (∀ r : Record, recordField r 0 = 1 → (r.toList.map BitVec.toNat).sum % 65536 ≠ 0 → judgeRecord r = some 43) ∧
    judgeRecord (recordOfBits (BitVec.allOnes 704)) = some 0 ∧
    (∀ s : State, s.membership.state = .loading → 719 ≤ s.slot → s.work.arrived = false →
      defaultRecord s = completeRead (recordOfBits (BitVec.allOnes 704)) s) ∧
    ∀ (s : State) (bits : SerialRecord), s.membership.state ≠ .loading → exec (.startRecordReadComplete bits) s = .next s) ∧
    (∀ r : Record, judgeRecord r = none ↔
      recordField r 0 = 1 ∧ (r.toList.map BitVec.toNat).sum % 65536 = 0 ∧ FieldsInRange r 23 ∧
        (∀ n : Nat, n < recordField r 22 → WindowInRange r n) ∧ recordField r 6 + 5 ≤ recordField r 10 ∧
        recordField r 10 ≤ recordField r 11 ∧ recordField r 12 < recordField r 16 ∧ recordField r 14 < recordField r 16 ∧
        ∀ n : Nat, n < recordField r 22 → windowBase r n ≤ windowLimit r n) ∧
    ∀ r : Record, recordField r 0 = 1 → (r.toList.map BitVec.toNat).sum % 65536 = 0 →
      (∀ k low high : Nat, (k, low, high) ∈ recordRanges → FieldsInRange r k →
        recordField r k < low ∨ high < recordField r k → judgeRecord r = some k) ∧
      (FieldsInRange r 23 → ∀ n : Nat, n < recordField r 22 → (∀ j : Nat, j < n → WindowInRange r j) →
        (16777215 < windowBase r n → judgeRecord r = some (23 + 5 * n)) ∧
        (windowBase r n ≤ 16777215 → 16777215 < windowLimit r n → judgeRecord r = some (25 + 5 * n)) ∧
        (windowBase r n ≤ 16777215 → windowLimit r n ≤ 16777215 →
          recordField r (27 + 5 * n) < 1 ∨ 3 < recordField r (27 + 5 * n) → judgeRecord r = some (27 + 5 * n))) ∧
      (FieldsInRange r 23 → (∀ n : Nat, n < recordField r 22 → WindowInRange r n) →
        (recordField r 10 < recordField r 6 + 5 → judgeRecord r = some 10) ∧
        (recordField r 6 + 5 ≤ recordField r 10 →
          (recordField r 11 < recordField r 10 → judgeRecord r = some 11) ∧
          (recordField r 10 ≤ recordField r 11 →
            (recordField r 16 ≤ recordField r 12 ∨ recordField r 16 ≤ recordField r 14 → judgeRecord r = some 16) ∧
            (recordField r 12 < recordField r 16 → recordField r 14 < recordField r 16 →
              ∀ n : Nat, n < recordField r 22 → (∀ j : Nat, j < n → windowBase r j ≤ windowLimit r j) →
                windowLimit r n < windowBase r n → judgeRecord r = some (25 + 5 * n)))))

/-! ### The channel memory -/

/-- Every observed command is taken by the channel memory, at a station in any state: an accepted one has its effect, and a
refused one changes nothing but a COMMAND_ERROR alert due two slots later (R2, R13); the check value, the issuer and the
digest do not matter to the acceptance. What each kind needs to be accepted (R10, R11, R13, R16, R17, R22 to R24), and the
whole of what each then changes (R10 to R12, R14 to R24). -/
def Obligations.MemoryTakesObservedCommand : Prop :=
  (∀ (s : State) (i : StationNo) (c : LaneCommand), ReadyToObserve (.command i c) s →
    ∃ t, exec (laneStep i c) s = .next t ∧
      (s.memory.accepts c = true → t.memory = s.memory.effect (decide (s.loader.straps = some i)) c) ∧
      (s.memory.accepts c = false →
        t.memory = { s.memory with commandAlerts := s.memory.commandAlerts ++ [s.memory.now + 2] })) ∧
    (∀ (m : ChannelMemory) (x y : CheckValue) (bank : BankNo) (row : RowNo) (column : ColumnNo) (bursts : BurstCount)
      (p : Purpose) (d e : Digest),
      m.accepts (.openRow x bank row) = m.accepts (.openRow y bank row) ∧
        m.accepts (.close x bank) = m.accepts (.close y bank) ∧ m.accepts (.closeAll x p d) = m.accepts (.closeAll y p e) ∧
        m.accepts (.read x bank column bursts) = m.accepts (.read y bank column bursts) ∧
        m.accepts (.write x bank column bursts) = m.accepts (.write y bank column bursts) ∧
        m.accepts (.refresh x) = m.accepts (.refresh y) ∧ m.accepts (.sleep x) = m.accepts (.sleep y) ∧
        m.accepts (.wake d) = m.accepts (.wake e)) ∧
    (∀ (m : ChannelMemory) (x : CheckValue) (bank : BankNo) (row : RowNo) (column : ColumnNo) (bursts : BurstCount)
      (p : Purpose) (d : Digest) (item : BitVec 2) (value : BitVec 4),
      let free := m.blockUntil ≤ m.now
      let closable := fun k => (m.bank k).row ≠ none → (m.bank k).heldUntil ≤ m.now ∧ (m.bank k).recoveringUntil ≤ m.now
      let settled :=
        (∀ k, (m.bank k).row = none ∧ (m.bank k).openFrom ≤ m.now) ∧ ∀ o ∈ m.schedule, o.slot < m.now
      let takes := fun direction =>
        free ∧ m.asleep = false ∧ (m.bank bank).row ≠ none ∧ (m.bank bank).columnFrom ≤ m.now ∧ 1 ≤ bursts.toNat ∧
          bursts.toNat ≤ 4 ∧ column.toNat + bursts.toNat ≤ 32 ∧
          ∀ last previous, m.lastData = some (last, previous) →
            last + 1 +
                (match previous, direction with
                | Direction.read, Direction.write => m.timing.turnRW
                | .write, .read => m.timing.turnWR
                | _, _ => 0) ≤
              m.now + (match direction with | .read => m.readLatency.toNat | .write => m.writeLatency.toNat)
      (m.accepts (.openRow x bank row) = true ↔
        free ∧ m.asleep = false ∧ (m.bank bank).row = none ∧ (m.bank bank).openFrom ≤ m.now ∧
          ∀ o, m.lastOpen = some o → o + m.timing.openSpacing ≤ m.now) ∧
      (m.accepts (.close x bank) = true ↔ free ∧ m.asleep = false ∧ (m.bank bank).row ≠ none ∧ closable bank) ∧
      (m.accepts (.closeAll x .init d) = true ↔ free) ∧
      (p ≠ .init → (m.accepts (.closeAll x p d) = true ↔ free ∧ m.asleep = false ∧ ∀ k, closable k)) ∧
      (m.lastData ≠ none ∨ 1 ≤ m.readLatency.toNat →
        (m.accepts (.read x bank column bursts) = true ↔ takes .read)) ∧
      (m.lastData ≠ none ∨ 1 ≤ m.writeLatency.toNat →
        (m.accepts (.write x bank column bursts) = true ↔ takes .write)) ∧
      (m.accepts (.refresh x) = true ↔ free ∧ m.asleep = false ∧ settled) ∧
      (m.accepts (.sleep x) = true ↔ free ∧ m.asleep = false ∧ settled) ∧
      (m.accepts (.wake d) = true ↔ free ∧ m.asleep = true) ∧
      (m.accepts (.modeSet item value) = true ↔
        free ∧
          (item = 0 ∧ 2 ≤ value.toNat ∨ item = 1 ∧ 1 ≤ value.toNat ∨ 2 ≤ item.toNat ∧ value.toNat ≤ 1))) ∧
    ∀ (m : ChannelMemory) (own : Bool) (x : CheckValue) (bank : BankNo) (row : RowNo) (column : ColumnNo)
      (bursts : BurstCount) (p : Purpose) (d : Digest) (value : BitVec 4),
      (m.effect own (.openRow x bank row) =
          { m with banks := (m.effect own (.openRow x bank row)).banks, lastOpen := some m.now } ∧
        (m.effect own (.openRow x bank row)).bank bank =
          { row := some row, columnFrom := m.now + m.timing.openDelay, heldUntil := m.now + m.timing.rowHold
            recoveringUntil := 0, openFrom := (m.bank bank).openFrom } ∧
        ∀ k, k ≠ bank → (m.effect own (.openRow x bank row)).bank k = m.bank k) ∧
      (m.effect own (.close x bank) = { m with banks := (m.effect own (.close x bank)).banks } ∧
        (m.effect own (.close x bank)).bank bank =
          { m.bank bank with row := none, openFrom := m.now + m.timing.closeDelay } ∧
        ∀ k, k ≠ bank → (m.effect own (.close x bank)).bank k = m.bank k) ∧
      ((∀ k, (m.effect own (.closeAll x p d)).bank k =
          { m.bank k with row := none, openFrom := m.now + m.timing.closeDelay }) ∧
        (p = .init → m.effect own (.closeAll x p d) =
          { m with
            banks := (m.effect own (.closeAll x p d)).banks, asleep := false, blockUntil := m.now + m.timing.wakeDelay
            retaining := true, refreshGap := 0, gapSettled := true, contents := [] }) ∧
        (p ≠ .init → m.effect own (.closeAll x p d) = { m with banks := (m.effect own (.closeAll x p d)).banks })) ∧
      (m.effect own (.read x bank column bursts) =
          { m with
            schedule := (m.effect own (.read x bank column bursts)).schedule
            lastData := some (m.now + m.readLatency.toNat + bursts.toNat - 1, .read) } ∧
        ∀ row, (m.bank bank).row = some row →
          (m.effect own (.read x bank column bursts)).schedule =
            m.schedule ++ (List.range bursts.toNat).map fun i =>
              { slot := m.now + m.readLatency.toNat + i, direction := .read
                granule := row.toNat * 512 + bank.toNat * 32 + (column.toNat + i), data := none
                last := decide (i + 1 = bursts.toNat), own := own }) ∧
      (m.effect own (.write x bank column bursts) =
          { m with
            banks := (m.effect own (.write x bank column bursts)).banks
            schedule := (m.effect own (.write x bank column bursts)).schedule
            lastData := some (m.now + m.writeLatency.toNat + bursts.toNat - 1, .write) } ∧
        (m.effect own (.write x bank column bursts)).bank bank =
          { m.bank bank with
            recoveringUntil := m.now + m.writeLatency.toNat + bursts.toNat + m.timing.writeRecovery } ∧
        (∀ k, k ≠ bank → (m.effect own (.write x bank column bursts)).bank k = m.bank k) ∧
        ∀ row, (m.bank bank).row = some row →
          (m.effect own (.write x bank column bursts)).schedule =
            m.schedule ++ (List.range bursts.toNat).map fun i =>
              { slot := m.now + m.writeLatency.toNat + i, direction := .write
                granule := row.toNat * 512 + bank.toNat * 32 + (column.toNat + i), data := none
                last := decide (i + 1 = bursts.toNat), own := own }) ∧
      m.effect own (.refresh x) =
        { m with blockUntil := m.now + m.timing.refreshBusy, refreshGap := 0, gapSettled := true } ∧
      m.effect own (.sleep x) = { m with asleep := true, gapSettled := true } ∧
      m.effect own (.wake d) =
        { m with asleep := false, blockUntil := m.now + m.timing.wakeDelay, refreshGap := 0, gapSettled := true } ∧
      m.effect own (.modeSet 0 value) = { m with readLatency := value } ∧
      m.effect own (.modeSet 1 value) = { m with writeLatency := value } ∧
      m.effect own (.modeSet 2 value) = { m with checkEnable := decide (value = 1) } ∧
      m.effect own (.modeSet 3 value) = { m with alertEnable := decide (value = 1) }

/-- A burst that the memory receives and that passes its check, or that is not checked, writes the bytes its mask names and
no other (R19), and nothing while retention is lost (R21). A burst that fails stores nothing; an own one that nobody drives
fails (R5), and one of another station that no step brings leaves its granule undefined (notes/assumptions/10.md). The
WRITE's last data slot makes a WRITE_CHECK alert due in the next slot where one of its bursts failed, an earlier one
included, and none where all passed (R20). A slot's end receives the burst of its data slot and then fixes the READs taken
in it: byte by byte the contents, undefined bytes by free values (notes/assumptions/11.md), which the memory then drives
with their check (R18). Where retention is lost in the READ's slot or before its data slots, that the bytes are fixed and
driven all the same is the model's choice (notes/assumptions/43.md), and so is that the burst of the slot of a
CLOSE_ALL(INIT) is stored in the emptied contents (notes/assumptions/42.md), and that a burst is judged by the check enable
that a MODE_SET of its slot has set (notes/assumptions/50.md). The refresh gap of an awake channel rises at the end of a slot, and past the retention limit the
contents are lost (R21); a sleeping channel's stays (R22), and so does one that the slot has set
(notes/assumptions/13.md). -/
def Obligations.ReceivedBurstIsStored : Prop :=
  ((∀ (m : ChannelMemory) (d : DataSlot) (o : OwnedSlot), m.retaining = true →
    (m.checkEnable = false ∨ burstCheck d.data = d.check) →
    (∀ j, j < 64 → d.mask.getLsbD j = true →
      readByte (m.receive (some d) o).contents (64 * o.granule + j) = some (burstByte d.data j)) ∧
    (∀ a, (∀ j, j < 64 → d.mask.getLsbD j = true → a ≠ 64 * o.granule + j) →
      readByte (m.receive (some d) o).contents a = readByte m.contents a) ∧
    (m.writeFailed = false → (m.receive (some d) o).writeAlerts = m.writeAlerts)) ∧
    (∀ (m : ChannelMemory) (d : DataSlot) (o : OwnedSlot), m.checkEnable = true → burstCheck d.data ≠ d.check →
      (m.receive (some d) o).contents = m.contents ∧
        (o.last = true → (m.receive (some d) o).writeAlerts = m.writeAlerts ++ [m.now + 1]) ∧
        (o.last = false → (m.receive (some d) o).writeAlerts = m.writeAlerts ∧ (m.receive (some d) o).writeFailed = true)) ∧
    ∀ m : ChannelMemory,
      (m.asleep = true ∨ m.gapSettled = true → m.ageRetention = m) ∧
        (m.asleep = false → m.gapSettled = false → m.refreshGap + 1 ≤ m.timing.retentionLimit →
          m.ageRetention = { m with refreshGap := m.refreshGap + 1 }) ∧
        (m.asleep = false → m.gapSettled = false → m.timing.retentionLimit < m.refreshGap + 1 →
          m.ageRetention = { m with refreshGap := m.refreshGap + 1, retaining := false, contents := [] })) ∧
    (∀ (m : ChannelMemory) (d : DataSlot) (o : OwnedSlot), m.checkEnable = false ∨ burstCheck d.data = d.check →
      (m.retaining = false → (m.receive (some d) o).contents = m.contents) ∧
      (o.last = true →
        (m.receive (some d) o).writeFailed = false ∧
          (m.receive (some d) o).writeAlerts = (if m.writeFailed then m.writeAlerts ++ [m.now + 1] else m.writeAlerts)) ∧
      (o.last = false →
        (m.receive (some d) o).writeFailed = m.writeFailed ∧ (m.receive (some d) o).writeAlerts = m.writeAlerts)) ∧
    (∀ (m : ChannelMemory) (o : OwnedSlot),
      (o.own = true → (m.receive none o).contents = m.contents ∧
        (m.checkEnable = true → o.last = true → (m.receive none o).writeAlerts = m.writeAlerts ++ [m.now + 1])) ∧
      (o.own = false → contentsOk m.contents = true → ∀ a, readByte (m.receive none o).contents a =
        if a / 64 = o.granule then none else readByte m.contents a)) ∧
    (∀ (m : ChannelMemory) (driving : Option DataSlot) (w : OwnedSlot), m.current = some w → w.direction = .write →
      (m.asleep = true ∨ m.gapSettled = true → (m.endSlot driving).contents = (m.receive driving w).contents) ∧
      ∀ o ∈ m.schedule, o.direction = .read → o.data = none → m.now < o.slot →
        { o with data := some (readGranule (m.receive driving w).contents m.reads o.granule) } ∈
          (m.endSlot driving).schedule) ∧
    (∀ (m : ChannelMemory) (driving : Option DataSlot), (∀ w, m.current = some w → w.direction = .read) →
      (m.asleep = true ∨ m.gapSettled = true → (m.endSlot driving).contents = m.contents) ∧
      ∀ o ∈ m.schedule, o.direction = .read → o.data = none → m.now < o.slot →
        { o with data := some (readGranule m.contents m.reads o.granule) } ∈ (m.endSlot driving).schedule) ∧
    (∀ (contents : List Host.Cell) (n granule j : Nat), j < 64 →
      burstByte (readGranule contents n granule) j =
        (readByte contents (64 * granule + j)).getD (Config.undefinedByte n (64 * granule + j))) ∧
    (∀ (m : ChannelMemory) (d : DataSlot), dataLines (some d) m = d) ∧
    (∀ (m : ChannelMemory) (o : OwnedSlot) (data : BurstData), m.current = some o → o.direction = .read →
      o.data = some data → dataLines none m = ⟨data, 0, burstCheck data⟩) ∧
    ∀ m : ChannelMemory, (∀ o, m.current = some o → o.direction = .write) → dataLines none m = ⟨zeroBurst, 0, 0xFF#8⟩

/-! ### Invariants -/

/-- The limits of the queue (R87, R121), the table (R162) and the debt (R146) are kept by every step. -/
def Obligations.LimitsAreKept : Prop := ∀ s t : State, WithinLimits s → step s = .next t → WithinLimits t

/-- The contents of the channel memory keep their canonical form in every step. -/
def Obligations.MemoryFormIsKept : Prop := ∀ s t : State, Memory.wf s → step s = .next t → Memory.wf t

/-- The response list always has room for every response owed (R187), in every step. -/
def Obligations.ResponseRoomIsKept : Prop := ∀ s t : State, ResponseRoom s → step s = .next t → ResponseRoom t

/-- The mirror is known and doubted as the station state says, in every step (R51, R54, R65, R74). -/
def Obligations.MirrorTrustIsKept : Prop := ∀ s t : State, MirrorTrust s → step s = .next t → MirrorTrust t

/-- Entries, the write fence, the vote, the duty pointer and the quiet hold are held in the states that let them, in every
step (R71, R83, R89, R108, R148, R156, R185). -/
def Obligations.HoldingsFollowState : Prop := ∀ s t : State, HeldByState s → step s = .next t → HeldByState t

/-- Reset has all five. -/
def Obligations.ResetHasEveryInvariant : Prop :=
  WithinLimits State.reset ∧ Memory.wf State.reset ∧ ResponseRoom State.reset ∧ MirrorTrust State.reset ∧
    HeldByState State.reset

end
end

