-- ==== Sys2Proof/Laws/State.lean ====
section
/-! SUPPORT. The small lemmas of the state's updates: what each update of one block reads back as, and that it leaves every
other block alone. Each is true by rfl, so that no proof about the machine unfolds a record update. -/

namespace Sys2Proof.Machine

/-! ### `withPending` -/

@[simp] theorem State.withPending_pending (s : State) (p : List Instr) : (s.withPending p).pending = p := rfl
@[simp] theorem State.withPending_slot (s : State) (p : List Instr) : (s.withPending p).slot = s.slot := rfl
@[simp] theorem State.withPending_work (s : State) (p : List Instr) : (s.withPending p).work = s.work := rfl
@[simp] theorem State.withPending_lines (s : State) (p : List Instr) : (s.withPending p).lines = s.lines := rfl
@[simp] theorem State.withPending_loader (s : State) (p : List Instr) : (s.withPending p).loader = s.loader := rfl
@[simp] theorem State.withPending_membership (s : State) (p : List Instr) : (s.withPending p).membership = s.membership := rfl
@[simp] theorem State.withPending_mirror (s : State) (p : List Instr) : (s.withPending p).mirror = s.mirror := rfl
@[simp] theorem State.withPending_queue (s : State) (p : List Instr) : (s.withPending p).queue = s.queue := rfl
@[simp] theorem State.withPending_table (s : State) (p : List Instr) : (s.withPending p).table = s.table := rfl
@[simp] theorem State.withPending_dataUnit (s : State) (p : List Instr) : (s.withPending p).dataUnit = s.dataUnit := rfl
@[simp] theorem State.withPending_controller (s : State) (p : List Instr) : (s.withPending p).controller = s.controller := rfl
@[simp] theorem State.withPending_port (s : State) (p : List Instr) : (s.withPending p).port = s.port := rfl
@[simp] theorem State.withPending_faults (s : State) (p : List Instr) : (s.withPending p).faults = s.faults := rfl
@[simp] theorem State.withPending_counters (s : State) (p : List Instr) : (s.withPending p).counters = s.counters := rfl
@[simp] theorem State.withPending_memory (s : State) (p : List Instr) : (s.withPending p).memory = s.memory := rfl
@[simp] theorem State.withPending_settings (s : State) (p : List Instr) : (s.withPending p).settings = s.settings := rfl
@[simp] theorem State.withPending_timing (s : State) (p : List Instr) : (s.withPending p).timing = s.timing := rfl
@[simp] theorem State.withPending_number (s : State) (p : List Instr) : (s.withPending p).number = s.number := rfl

/-! ### `withSlot` -/

@[simp] theorem State.withSlot_pending (s : State) (n : Nat) : (s.withSlot n).pending = s.pending := rfl
@[simp] theorem State.withSlot_slot (s : State) (n : Nat) : (s.withSlot n).slot = n := rfl
@[simp] theorem State.withSlot_work (s : State) (n : Nat) : (s.withSlot n).work = s.work := rfl
@[simp] theorem State.withSlot_lines (s : State) (n : Nat) : (s.withSlot n).lines = s.lines := rfl
@[simp] theorem State.withSlot_loader (s : State) (n : Nat) : (s.withSlot n).loader = s.loader := rfl
@[simp] theorem State.withSlot_membership (s : State) (n : Nat) : (s.withSlot n).membership = s.membership := rfl
@[simp] theorem State.withSlot_mirror (s : State) (n : Nat) : (s.withSlot n).mirror = s.mirror := rfl
@[simp] theorem State.withSlot_queue (s : State) (n : Nat) : (s.withSlot n).queue = s.queue := rfl
@[simp] theorem State.withSlot_table (s : State) (n : Nat) : (s.withSlot n).table = s.table := rfl
@[simp] theorem State.withSlot_dataUnit (s : State) (n : Nat) : (s.withSlot n).dataUnit = s.dataUnit := rfl
@[simp] theorem State.withSlot_controller (s : State) (n : Nat) : (s.withSlot n).controller = s.controller := rfl
@[simp] theorem State.withSlot_port (s : State) (n : Nat) : (s.withSlot n).port = s.port := rfl
@[simp] theorem State.withSlot_faults (s : State) (n : Nat) : (s.withSlot n).faults = s.faults := rfl
@[simp] theorem State.withSlot_counters (s : State) (n : Nat) : (s.withSlot n).counters = s.counters := rfl
@[simp] theorem State.withSlot_memory (s : State) (n : Nat) : (s.withSlot n).memory = s.memory := rfl
@[simp] theorem State.withSlot_settings (s : State) (n : Nat) : (s.withSlot n).settings = s.settings := rfl
@[simp] theorem State.withSlot_timing (s : State) (n : Nat) : (s.withSlot n).timing = s.timing := rfl
@[simp] theorem State.withSlot_number (s : State) (n : Nat) : (s.withSlot n).number = s.number := rfl

/-! ### `withWork` -/

@[simp] theorem State.withWork_pending (s : State) (w : SlotWork) : (s.withWork w).pending = s.pending := rfl
@[simp] theorem State.withWork_slot (s : State) (w : SlotWork) : (s.withWork w).slot = s.slot := rfl
@[simp] theorem State.withWork_work (s : State) (w : SlotWork) : (s.withWork w).work = w := rfl
@[simp] theorem State.withWork_lines (s : State) (w : SlotWork) : (s.withWork w).lines = s.lines := rfl
@[simp] theorem State.withWork_loader (s : State) (w : SlotWork) : (s.withWork w).loader = s.loader := rfl
@[simp] theorem State.withWork_membership (s : State) (w : SlotWork) : (s.withWork w).membership = s.membership := rfl
@[simp] theorem State.withWork_mirror (s : State) (w : SlotWork) : (s.withWork w).mirror = s.mirror := rfl
@[simp] theorem State.withWork_queue (s : State) (w : SlotWork) : (s.withWork w).queue = s.queue := rfl
@[simp] theorem State.withWork_table (s : State) (w : SlotWork) : (s.withWork w).table = s.table := rfl
@[simp] theorem State.withWork_dataUnit (s : State) (w : SlotWork) : (s.withWork w).dataUnit = s.dataUnit := rfl
@[simp] theorem State.withWork_controller (s : State) (w : SlotWork) : (s.withWork w).controller = s.controller := rfl
@[simp] theorem State.withWork_port (s : State) (w : SlotWork) : (s.withWork w).port = s.port := rfl
@[simp] theorem State.withWork_faults (s : State) (w : SlotWork) : (s.withWork w).faults = s.faults := rfl
@[simp] theorem State.withWork_counters (s : State) (w : SlotWork) : (s.withWork w).counters = s.counters := rfl
@[simp] theorem State.withWork_memory (s : State) (w : SlotWork) : (s.withWork w).memory = s.memory := rfl
@[simp] theorem State.withWork_settings (s : State) (w : SlotWork) : (s.withWork w).settings = s.settings := rfl
@[simp] theorem State.withWork_timing (s : State) (w : SlotWork) : (s.withWork w).timing = s.timing := rfl
@[simp] theorem State.withWork_number (s : State) (w : SlotWork) : (s.withWork w).number = s.number := rfl

/-! ### `withLines` -/

@[simp] theorem State.withLines_pending (s : State) (l : Lines) : (s.withLines l).pending = s.pending := rfl
@[simp] theorem State.withLines_slot (s : State) (l : Lines) : (s.withLines l).slot = s.slot := rfl
@[simp] theorem State.withLines_work (s : State) (l : Lines) : (s.withLines l).work = s.work := rfl
@[simp] theorem State.withLines_lines (s : State) (l : Lines) : (s.withLines l).lines = l := rfl
@[simp] theorem State.withLines_loader (s : State) (l : Lines) : (s.withLines l).loader = s.loader := rfl
@[simp] theorem State.withLines_membership (s : State) (l : Lines) : (s.withLines l).membership = s.membership := rfl
@[simp] theorem State.withLines_mirror (s : State) (l : Lines) : (s.withLines l).mirror = s.mirror := rfl
@[simp] theorem State.withLines_queue (s : State) (l : Lines) : (s.withLines l).queue = s.queue := rfl
@[simp] theorem State.withLines_table (s : State) (l : Lines) : (s.withLines l).table = s.table := rfl
@[simp] theorem State.withLines_dataUnit (s : State) (l : Lines) : (s.withLines l).dataUnit = s.dataUnit := rfl
@[simp] theorem State.withLines_controller (s : State) (l : Lines) : (s.withLines l).controller = s.controller := rfl
@[simp] theorem State.withLines_port (s : State) (l : Lines) : (s.withLines l).port = s.port := rfl
@[simp] theorem State.withLines_faults (s : State) (l : Lines) : (s.withLines l).faults = s.faults := rfl
@[simp] theorem State.withLines_counters (s : State) (l : Lines) : (s.withLines l).counters = s.counters := rfl
@[simp] theorem State.withLines_memory (s : State) (l : Lines) : (s.withLines l).memory = s.memory := rfl
@[simp] theorem State.withLines_settings (s : State) (l : Lines) : (s.withLines l).settings = s.settings := rfl
@[simp] theorem State.withLines_timing (s : State) (l : Lines) : (s.withLines l).timing = s.timing := rfl
@[simp] theorem State.withLines_number (s : State) (l : Lines) : (s.withLines l).number = s.number := rfl

/-! ### `withLoader` -/

@[simp] theorem State.withLoader_pending (s : State) (l : Loader) : (s.withLoader l).pending = s.pending := rfl
@[simp] theorem State.withLoader_slot (s : State) (l : Loader) : (s.withLoader l).slot = s.slot := rfl
@[simp] theorem State.withLoader_work (s : State) (l : Loader) : (s.withLoader l).work = s.work := rfl
@[simp] theorem State.withLoader_lines (s : State) (l : Loader) : (s.withLoader l).lines = s.lines := rfl
@[simp] theorem State.withLoader_loader (s : State) (l : Loader) : (s.withLoader l).loader = l := rfl
@[simp] theorem State.withLoader_membership (s : State) (l : Loader) : (s.withLoader l).membership = s.membership := rfl
@[simp] theorem State.withLoader_mirror (s : State) (l : Loader) : (s.withLoader l).mirror = s.mirror := rfl
@[simp] theorem State.withLoader_queue (s : State) (l : Loader) : (s.withLoader l).queue = s.queue := rfl
@[simp] theorem State.withLoader_table (s : State) (l : Loader) : (s.withLoader l).table = s.table := rfl
@[simp] theorem State.withLoader_dataUnit (s : State) (l : Loader) : (s.withLoader l).dataUnit = s.dataUnit := rfl
@[simp] theorem State.withLoader_controller (s : State) (l : Loader) : (s.withLoader l).controller = s.controller := rfl
@[simp] theorem State.withLoader_port (s : State) (l : Loader) : (s.withLoader l).port = s.port := rfl
@[simp] theorem State.withLoader_faults (s : State) (l : Loader) : (s.withLoader l).faults = s.faults := rfl
@[simp] theorem State.withLoader_counters (s : State) (l : Loader) : (s.withLoader l).counters = s.counters := rfl
@[simp] theorem State.withLoader_memory (s : State) (l : Loader) : (s.withLoader l).memory = s.memory := rfl

/-! ### `withMembership` -/

@[simp] theorem State.withMembership_pending (s : State) (m : Membership) : (s.withMembership m).pending = s.pending := rfl
@[simp] theorem State.withMembership_slot (s : State) (m : Membership) : (s.withMembership m).slot = s.slot := rfl
@[simp] theorem State.withMembership_work (s : State) (m : Membership) : (s.withMembership m).work = s.work := rfl
@[simp] theorem State.withMembership_lines (s : State) (m : Membership) : (s.withMembership m).lines = s.lines := rfl
@[simp] theorem State.withMembership_loader (s : State) (m : Membership) : (s.withMembership m).loader = s.loader := rfl
@[simp] theorem State.withMembership_membership (s : State) (m : Membership) : (s.withMembership m).membership = m := rfl
@[simp] theorem State.withMembership_mirror (s : State) (m : Membership) : (s.withMembership m).mirror = s.mirror := rfl
@[simp] theorem State.withMembership_queue (s : State) (m : Membership) : (s.withMembership m).queue = s.queue := rfl
@[simp] theorem State.withMembership_table (s : State) (m : Membership) : (s.withMembership m).table = s.table := rfl
@[simp] theorem State.withMembership_dataUnit (s : State) (m : Membership) : (s.withMembership m).dataUnit = s.dataUnit := rfl
@[simp] theorem State.withMembership_controller (s : State) (m : Membership) : (s.withMembership m).controller = s.controller := rfl
@[simp] theorem State.withMembership_port (s : State) (m : Membership) : (s.withMembership m).port = s.port := rfl
@[simp] theorem State.withMembership_faults (s : State) (m : Membership) : (s.withMembership m).faults = s.faults := rfl
@[simp] theorem State.withMembership_counters (s : State) (m : Membership) : (s.withMembership m).counters = s.counters := rfl
@[simp] theorem State.withMembership_memory (s : State) (m : Membership) : (s.withMembership m).memory = s.memory := rfl
@[simp] theorem State.withMembership_settings (s : State) (m : Membership) : (s.withMembership m).settings = s.settings := rfl
@[simp] theorem State.withMembership_timing (s : State) (m : Membership) : (s.withMembership m).timing = s.timing := rfl
@[simp] theorem State.withMembership_number (s : State) (m : Membership) : (s.withMembership m).number = s.number := rfl

/-! ### `withMirror` -/

@[simp] theorem State.withMirror_pending (s : State) (m : Mirror) : (s.withMirror m).pending = s.pending := rfl
@[simp] theorem State.withMirror_slot (s : State) (m : Mirror) : (s.withMirror m).slot = s.slot := rfl
@[simp] theorem State.withMirror_work (s : State) (m : Mirror) : (s.withMirror m).work = s.work := rfl
@[simp] theorem State.withMirror_lines (s : State) (m : Mirror) : (s.withMirror m).lines = s.lines := rfl
@[simp] theorem State.withMirror_loader (s : State) (m : Mirror) : (s.withMirror m).loader = s.loader := rfl
@[simp] theorem State.withMirror_membership (s : State) (m : Mirror) : (s.withMirror m).membership = s.membership := rfl
@[simp] theorem State.withMirror_mirror (s : State) (m : Mirror) : (s.withMirror m).mirror = m := rfl
@[simp] theorem State.withMirror_queue (s : State) (m : Mirror) : (s.withMirror m).queue = s.queue := rfl
@[simp] theorem State.withMirror_table (s : State) (m : Mirror) : (s.withMirror m).table = s.table := rfl
@[simp] theorem State.withMirror_dataUnit (s : State) (m : Mirror) : (s.withMirror m).dataUnit = s.dataUnit := rfl
@[simp] theorem State.withMirror_controller (s : State) (m : Mirror) : (s.withMirror m).controller = s.controller := rfl
@[simp] theorem State.withMirror_port (s : State) (m : Mirror) : (s.withMirror m).port = s.port := rfl
@[simp] theorem State.withMirror_faults (s : State) (m : Mirror) : (s.withMirror m).faults = s.faults := rfl
@[simp] theorem State.withMirror_counters (s : State) (m : Mirror) : (s.withMirror m).counters = s.counters := rfl
@[simp] theorem State.withMirror_memory (s : State) (m : Mirror) : (s.withMirror m).memory = s.memory := rfl
@[simp] theorem State.withMirror_settings (s : State) (m : Mirror) : (s.withMirror m).settings = s.settings := rfl
@[simp] theorem State.withMirror_timing (s : State) (m : Mirror) : (s.withMirror m).timing = s.timing := rfl
@[simp] theorem State.withMirror_number (s : State) (m : Mirror) : (s.withMirror m).number = s.number := rfl

/-! ### `withQueue` -/

@[simp] theorem State.withQueue_pending (s : State) (q : List Entry) : (s.withQueue q).pending = s.pending := rfl
@[simp] theorem State.withQueue_slot (s : State) (q : List Entry) : (s.withQueue q).slot = s.slot := rfl
@[simp] theorem State.withQueue_work (s : State) (q : List Entry) : (s.withQueue q).work = s.work := rfl
@[simp] theorem State.withQueue_lines (s : State) (q : List Entry) : (s.withQueue q).lines = s.lines := rfl
@[simp] theorem State.withQueue_loader (s : State) (q : List Entry) : (s.withQueue q).loader = s.loader := rfl
@[simp] theorem State.withQueue_membership (s : State) (q : List Entry) : (s.withQueue q).membership = s.membership := rfl
@[simp] theorem State.withQueue_mirror (s : State) (q : List Entry) : (s.withQueue q).mirror = s.mirror := rfl
@[simp] theorem State.withQueue_queue (s : State) (q : List Entry) : (s.withQueue q).queue = q := rfl
@[simp] theorem State.withQueue_table (s : State) (q : List Entry) : (s.withQueue q).table = s.table := rfl
@[simp] theorem State.withQueue_dataUnit (s : State) (q : List Entry) : (s.withQueue q).dataUnit = s.dataUnit := rfl
@[simp] theorem State.withQueue_controller (s : State) (q : List Entry) : (s.withQueue q).controller = s.controller := rfl
@[simp] theorem State.withQueue_port (s : State) (q : List Entry) : (s.withQueue q).port = s.port := rfl
@[simp] theorem State.withQueue_faults (s : State) (q : List Entry) : (s.withQueue q).faults = s.faults := rfl
@[simp] theorem State.withQueue_counters (s : State) (q : List Entry) : (s.withQueue q).counters = s.counters := rfl
@[simp] theorem State.withQueue_memory (s : State) (q : List Entry) : (s.withQueue q).memory = s.memory := rfl
@[simp] theorem State.withQueue_settings (s : State) (q : List Entry) : (s.withQueue q).settings = s.settings := rfl
@[simp] theorem State.withQueue_timing (s : State) (q : List Entry) : (s.withQueue q).timing = s.timing := rfl
@[simp] theorem State.withQueue_number (s : State) (q : List Entry) : (s.withQueue q).number = s.number := rfl

/-! ### `withTable` -/

@[simp] theorem State.withTable_pending (s : State) (t : ReservationTable) : (s.withTable t).pending = s.pending := rfl
@[simp] theorem State.withTable_slot (s : State) (t : ReservationTable) : (s.withTable t).slot = s.slot := rfl
@[simp] theorem State.withTable_work (s : State) (t : ReservationTable) : (s.withTable t).work = s.work := rfl
@[simp] theorem State.withTable_lines (s : State) (t : ReservationTable) : (s.withTable t).lines = s.lines := rfl
@[simp] theorem State.withTable_loader (s : State) (t : ReservationTable) : (s.withTable t).loader = s.loader := rfl
@[simp] theorem State.withTable_membership (s : State) (t : ReservationTable) : (s.withTable t).membership = s.membership := rfl
@[simp] theorem State.withTable_mirror (s : State) (t : ReservationTable) : (s.withTable t).mirror = s.mirror := rfl
@[simp] theorem State.withTable_queue (s : State) (t : ReservationTable) : (s.withTable t).queue = s.queue := rfl
@[simp] theorem State.withTable_table (s : State) (t : ReservationTable) : (s.withTable t).table = t := rfl
@[simp] theorem State.withTable_dataUnit (s : State) (t : ReservationTable) : (s.withTable t).dataUnit = s.dataUnit := rfl
@[simp] theorem State.withTable_controller (s : State) (t : ReservationTable) : (s.withTable t).controller = s.controller := rfl
@[simp] theorem State.withTable_port (s : State) (t : ReservationTable) : (s.withTable t).port = s.port := rfl
@[simp] theorem State.withTable_faults (s : State) (t : ReservationTable) : (s.withTable t).faults = s.faults := rfl
@[simp] theorem State.withTable_counters (s : State) (t : ReservationTable) : (s.withTable t).counters = s.counters := rfl
@[simp] theorem State.withTable_memory (s : State) (t : ReservationTable) : (s.withTable t).memory = s.memory := rfl
@[simp] theorem State.withTable_settings (s : State) (t : ReservationTable) : (s.withTable t).settings = s.settings := rfl
@[simp] theorem State.withTable_timing (s : State) (t : ReservationTable) : (s.withTable t).timing = s.timing := rfl
@[simp] theorem State.withTable_number (s : State) (t : ReservationTable) : (s.withTable t).number = s.number := rfl

/-! ### `withDataUnit` -/

@[simp] theorem State.withDataUnit_pending (s : State) (d : DataUnit) : (s.withDataUnit d).pending = s.pending := rfl
@[simp] theorem State.withDataUnit_slot (s : State) (d : DataUnit) : (s.withDataUnit d).slot = s.slot := rfl
@[simp] theorem State.withDataUnit_work (s : State) (d : DataUnit) : (s.withDataUnit d).work = s.work := rfl
@[simp] theorem State.withDataUnit_lines (s : State) (d : DataUnit) : (s.withDataUnit d).lines = s.lines := rfl
@[simp] theorem State.withDataUnit_loader (s : State) (d : DataUnit) : (s.withDataUnit d).loader = s.loader := rfl
@[simp] theorem State.withDataUnit_membership (s : State) (d : DataUnit) : (s.withDataUnit d).membership = s.membership := rfl
@[simp] theorem State.withDataUnit_mirror (s : State) (d : DataUnit) : (s.withDataUnit d).mirror = s.mirror := rfl
@[simp] theorem State.withDataUnit_queue (s : State) (d : DataUnit) : (s.withDataUnit d).queue = s.queue := rfl
@[simp] theorem State.withDataUnit_table (s : State) (d : DataUnit) : (s.withDataUnit d).table = s.table := rfl
@[simp] theorem State.withDataUnit_dataUnit (s : State) (d : DataUnit) : (s.withDataUnit d).dataUnit = d := rfl
@[simp] theorem State.withDataUnit_controller (s : State) (d : DataUnit) : (s.withDataUnit d).controller = s.controller := rfl
@[simp] theorem State.withDataUnit_port (s : State) (d : DataUnit) : (s.withDataUnit d).port = s.port := rfl
@[simp] theorem State.withDataUnit_faults (s : State) (d : DataUnit) : (s.withDataUnit d).faults = s.faults := rfl
@[simp] theorem State.withDataUnit_counters (s : State) (d : DataUnit) : (s.withDataUnit d).counters = s.counters := rfl
@[simp] theorem State.withDataUnit_memory (s : State) (d : DataUnit) : (s.withDataUnit d).memory = s.memory := rfl
@[simp] theorem State.withDataUnit_settings (s : State) (d : DataUnit) : (s.withDataUnit d).settings = s.settings := rfl
@[simp] theorem State.withDataUnit_timing (s : State) (d : DataUnit) : (s.withDataUnit d).timing = s.timing := rfl
@[simp] theorem State.withDataUnit_number (s : State) (d : DataUnit) : (s.withDataUnit d).number = s.number := rfl

/-! ### `withController` -/

@[simp] theorem State.withController_pending (s : State) (c : RefreshQuiet) : (s.withController c).pending = s.pending := rfl
@[simp] theorem State.withController_slot (s : State) (c : RefreshQuiet) : (s.withController c).slot = s.slot := rfl
@[simp] theorem State.withController_work (s : State) (c : RefreshQuiet) : (s.withController c).work = s.work := rfl
@[simp] theorem State.withController_lines (s : State) (c : RefreshQuiet) : (s.withController c).lines = s.lines := rfl
@[simp] theorem State.withController_loader (s : State) (c : RefreshQuiet) : (s.withController c).loader = s.loader := rfl
@[simp] theorem State.withController_membership (s : State) (c : RefreshQuiet) : (s.withController c).membership = s.membership := rfl
@[simp] theorem State.withController_mirror (s : State) (c : RefreshQuiet) : (s.withController c).mirror = s.mirror := rfl
@[simp] theorem State.withController_queue (s : State) (c : RefreshQuiet) : (s.withController c).queue = s.queue := rfl
@[simp] theorem State.withController_table (s : State) (c : RefreshQuiet) : (s.withController c).table = s.table := rfl
@[simp] theorem State.withController_dataUnit (s : State) (c : RefreshQuiet) : (s.withController c).dataUnit = s.dataUnit := rfl
@[simp] theorem State.withController_controller (s : State) (c : RefreshQuiet) : (s.withController c).controller = c := rfl
@[simp] theorem State.withController_port (s : State) (c : RefreshQuiet) : (s.withController c).port = s.port := rfl
@[simp] theorem State.withController_faults (s : State) (c : RefreshQuiet) : (s.withController c).faults = s.faults := rfl
@[simp] theorem State.withController_counters (s : State) (c : RefreshQuiet) : (s.withController c).counters = s.counters := rfl
@[simp] theorem State.withController_memory (s : State) (c : RefreshQuiet) : (s.withController c).memory = s.memory := rfl
@[simp] theorem State.withController_settings (s : State) (c : RefreshQuiet) : (s.withController c).settings = s.settings := rfl
@[simp] theorem State.withController_timing (s : State) (c : RefreshQuiet) : (s.withController c).timing = s.timing := rfl
@[simp] theorem State.withController_number (s : State) (c : RefreshQuiet) : (s.withController c).number = s.number := rfl

/-! ### `withPort` -/

@[simp] theorem State.withPort_pending (s : State) (p : ClientPort) : (s.withPort p).pending = s.pending := rfl
@[simp] theorem State.withPort_slot (s : State) (p : ClientPort) : (s.withPort p).slot = s.slot := rfl
@[simp] theorem State.withPort_work (s : State) (p : ClientPort) : (s.withPort p).work = s.work := rfl
@[simp] theorem State.withPort_lines (s : State) (p : ClientPort) : (s.withPort p).lines = s.lines := rfl
@[simp] theorem State.withPort_loader (s : State) (p : ClientPort) : (s.withPort p).loader = s.loader := rfl
@[simp] theorem State.withPort_membership (s : State) (p : ClientPort) : (s.withPort p).membership = s.membership := rfl
@[simp] theorem State.withPort_mirror (s : State) (p : ClientPort) : (s.withPort p).mirror = s.mirror := rfl
@[simp] theorem State.withPort_queue (s : State) (p : ClientPort) : (s.withPort p).queue = s.queue := rfl
@[simp] theorem State.withPort_table (s : State) (p : ClientPort) : (s.withPort p).table = s.table := rfl
@[simp] theorem State.withPort_dataUnit (s : State) (p : ClientPort) : (s.withPort p).dataUnit = s.dataUnit := rfl
@[simp] theorem State.withPort_controller (s : State) (p : ClientPort) : (s.withPort p).controller = s.controller := rfl
@[simp] theorem State.withPort_port (s : State) (p : ClientPort) : (s.withPort p).port = p := rfl
@[simp] theorem State.withPort_faults (s : State) (p : ClientPort) : (s.withPort p).faults = s.faults := rfl
@[simp] theorem State.withPort_counters (s : State) (p : ClientPort) : (s.withPort p).counters = s.counters := rfl
@[simp] theorem State.withPort_memory (s : State) (p : ClientPort) : (s.withPort p).memory = s.memory := rfl
@[simp] theorem State.withPort_settings (s : State) (p : ClientPort) : (s.withPort p).settings = s.settings := rfl
@[simp] theorem State.withPort_timing (s : State) (p : ClientPort) : (s.withPort p).timing = s.timing := rfl
@[simp] theorem State.withPort_number (s : State) (p : ClientPort) : (s.withPort p).number = s.number := rfl

/-! ### `withFaults` -/

@[simp] theorem State.withFaults_pending (s : State) (f : FaultRecord) : (s.withFaults f).pending = s.pending := rfl
@[simp] theorem State.withFaults_slot (s : State) (f : FaultRecord) : (s.withFaults f).slot = s.slot := rfl
@[simp] theorem State.withFaults_work (s : State) (f : FaultRecord) : (s.withFaults f).work = s.work := rfl
@[simp] theorem State.withFaults_lines (s : State) (f : FaultRecord) : (s.withFaults f).lines = s.lines := rfl
@[simp] theorem State.withFaults_loader (s : State) (f : FaultRecord) : (s.withFaults f).loader = s.loader := rfl
@[simp] theorem State.withFaults_membership (s : State) (f : FaultRecord) : (s.withFaults f).membership = s.membership := rfl
@[simp] theorem State.withFaults_mirror (s : State) (f : FaultRecord) : (s.withFaults f).mirror = s.mirror := rfl
@[simp] theorem State.withFaults_queue (s : State) (f : FaultRecord) : (s.withFaults f).queue = s.queue := rfl
@[simp] theorem State.withFaults_table (s : State) (f : FaultRecord) : (s.withFaults f).table = s.table := rfl
@[simp] theorem State.withFaults_dataUnit (s : State) (f : FaultRecord) : (s.withFaults f).dataUnit = s.dataUnit := rfl
@[simp] theorem State.withFaults_controller (s : State) (f : FaultRecord) : (s.withFaults f).controller = s.controller := rfl
@[simp] theorem State.withFaults_port (s : State) (f : FaultRecord) : (s.withFaults f).port = s.port := rfl
@[simp] theorem State.withFaults_faults (s : State) (f : FaultRecord) : (s.withFaults f).faults = f := rfl
@[simp] theorem State.withFaults_counters (s : State) (f : FaultRecord) : (s.withFaults f).counters = s.counters := rfl
@[simp] theorem State.withFaults_memory (s : State) (f : FaultRecord) : (s.withFaults f).memory = s.memory := rfl
@[simp] theorem State.withFaults_settings (s : State) (f : FaultRecord) : (s.withFaults f).settings = s.settings := rfl
@[simp] theorem State.withFaults_timing (s : State) (f : FaultRecord) : (s.withFaults f).timing = s.timing := rfl
@[simp] theorem State.withFaults_number (s : State) (f : FaultRecord) : (s.withFaults f).number = s.number := rfl

/-! ### `withCounters` -/

@[simp] theorem State.withCounters_pending (s : State) (c : Counters) : (s.withCounters c).pending = s.pending := rfl
@[simp] theorem State.withCounters_slot (s : State) (c : Counters) : (s.withCounters c).slot = s.slot := rfl
@[simp] theorem State.withCounters_work (s : State) (c : Counters) : (s.withCounters c).work = s.work := rfl
@[simp] theorem State.withCounters_lines (s : State) (c : Counters) : (s.withCounters c).lines = s.lines := rfl
@[simp] theorem State.withCounters_loader (s : State) (c : Counters) : (s.withCounters c).loader = s.loader := rfl
@[simp] theorem State.withCounters_membership (s : State) (c : Counters) : (s.withCounters c).membership = s.membership := rfl
@[simp] theorem State.withCounters_mirror (s : State) (c : Counters) : (s.withCounters c).mirror = s.mirror := rfl
@[simp] theorem State.withCounters_queue (s : State) (c : Counters) : (s.withCounters c).queue = s.queue := rfl
@[simp] theorem State.withCounters_table (s : State) (c : Counters) : (s.withCounters c).table = s.table := rfl
@[simp] theorem State.withCounters_dataUnit (s : State) (c : Counters) : (s.withCounters c).dataUnit = s.dataUnit := rfl
@[simp] theorem State.withCounters_controller (s : State) (c : Counters) : (s.withCounters c).controller = s.controller := rfl
@[simp] theorem State.withCounters_port (s : State) (c : Counters) : (s.withCounters c).port = s.port := rfl
@[simp] theorem State.withCounters_faults (s : State) (c : Counters) : (s.withCounters c).faults = s.faults := rfl
@[simp] theorem State.withCounters_counters (s : State) (c : Counters) : (s.withCounters c).counters = c := rfl
@[simp] theorem State.withCounters_memory (s : State) (c : Counters) : (s.withCounters c).memory = s.memory := rfl
@[simp] theorem State.withCounters_settings (s : State) (c : Counters) : (s.withCounters c).settings = s.settings := rfl
@[simp] theorem State.withCounters_timing (s : State) (c : Counters) : (s.withCounters c).timing = s.timing := rfl
@[simp] theorem State.withCounters_number (s : State) (c : Counters) : (s.withCounters c).number = s.number := rfl

/-! ### `withMemory` -/

@[simp] theorem State.withMemory_pending (s : State) (m : ChannelMemory) : (s.withMemory m).pending = s.pending := rfl
@[simp] theorem State.withMemory_slot (s : State) (m : ChannelMemory) : (s.withMemory m).slot = s.slot := rfl
@[simp] theorem State.withMemory_work (s : State) (m : ChannelMemory) : (s.withMemory m).work = s.work := rfl
@[simp] theorem State.withMemory_lines (s : State) (m : ChannelMemory) : (s.withMemory m).lines = s.lines := rfl
@[simp] theorem State.withMemory_loader (s : State) (m : ChannelMemory) : (s.withMemory m).loader = s.loader := rfl
@[simp] theorem State.withMemory_membership (s : State) (m : ChannelMemory) : (s.withMemory m).membership = s.membership := rfl
@[simp] theorem State.withMemory_mirror (s : State) (m : ChannelMemory) : (s.withMemory m).mirror = s.mirror := rfl
@[simp] theorem State.withMemory_queue (s : State) (m : ChannelMemory) : (s.withMemory m).queue = s.queue := rfl
@[simp] theorem State.withMemory_table (s : State) (m : ChannelMemory) : (s.withMemory m).table = s.table := rfl
@[simp] theorem State.withMemory_dataUnit (s : State) (m : ChannelMemory) : (s.withMemory m).dataUnit = s.dataUnit := rfl
@[simp] theorem State.withMemory_controller (s : State) (m : ChannelMemory) : (s.withMemory m).controller = s.controller := rfl
@[simp] theorem State.withMemory_port (s : State) (m : ChannelMemory) : (s.withMemory m).port = s.port := rfl
@[simp] theorem State.withMemory_faults (s : State) (m : ChannelMemory) : (s.withMemory m).faults = s.faults := rfl
@[simp] theorem State.withMemory_counters (s : State) (m : ChannelMemory) : (s.withMemory m).counters = s.counters := rfl
@[simp] theorem State.withMemory_memory (s : State) (m : ChannelMemory) : (s.withMemory m).memory = m := rfl
@[simp] theorem State.withMemory_settings (s : State) (m : ChannelMemory) : (s.withMemory m).settings = s.settings := rfl
@[simp] theorem State.withMemory_timing (s : State) (m : ChannelMemory) : (s.withMemory m).timing = s.timing := rfl
@[simp] theorem State.withMemory_number (s : State) (m : ChannelMemory) : (s.withMemory m).number = s.number := rfl

/-! ### What the loader gives the other blocks -/

theorem State.settings_of_loader {s t : State} (h : t.loader = s.loader) : t.settings = s.settings := by
  unfold State.settings; rw [h]

theorem State.timing_of_loader {s t : State} (h : t.loader = s.loader) : t.timing = s.timing := by
  unfold State.timing; rw [State.settings_of_loader h]

theorem State.number_of_loader {s t : State} (h : t.loader = s.loader) : t.number = s.number := by
  unfold State.number; rw [h]

end Sys2Proof.Machine
end

