-- ==== Sys2Proof/Laws/Ops.lean ====
section
/-! SUPPORT. The frames of the operations that several blocks share: the blocks of the state that the
operation leaves as they are, whatever it does. -/

namespace Sys2Proof.Machine

@[simp] theorem markEnded_frame (p c : Bool) (s : State) :
    (markEnded p c s).pending = s.pending ∧ (markEnded p c s).slot = s.slot ∧ (markEnded p c s).lines = s.lines ∧
      (markEnded p c s).loader = s.loader ∧ (markEnded p c s).membership = s.membership ∧ (markEnded p c s).mirror = s.mirror ∧
      (markEnded p c s).queue = s.queue ∧ (markEnded p c s).table = s.table ∧ (markEnded p c s).dataUnit = s.dataUnit ∧
      (markEnded p c s).controller = s.controller ∧ (markEnded p c s).port = s.port ∧ (markEnded p c s).faults = s.faults ∧
      (markEnded p c s).counters = s.counters ∧ (markEnded p c s).memory = s.memory ∧ (markEnded p c s).settings = s.settings ∧
      (markEnded p c s).timing = s.timing ∧ (markEnded p c s).number = s.number := by
  unfold markEnded; dsimp only; simp

@[simp] theorem recordFault_frame (k : FaultKind) (d : Byte) (s : State) :
    (recordFault k d s).pending = s.pending ∧ (recordFault k d s).slot = s.slot ∧ (recordFault k d s).work = s.work ∧
      (recordFault k d s).lines = s.lines ∧ (recordFault k d s).loader = s.loader ∧ (recordFault k d s).membership = s.membership ∧
      (recordFault k d s).mirror = s.mirror ∧ (recordFault k d s).queue = s.queue ∧ (recordFault k d s).table = s.table ∧
      (recordFault k d s).dataUnit = s.dataUnit ∧ (recordFault k d s).controller = s.controller ∧ (recordFault k d s).port = s.port ∧
      (recordFault k d s).counters = s.counters ∧ (recordFault k d s).memory = s.memory ∧ (recordFault k d s).settings = s.settings ∧
      (recordFault k d s).timing = s.timing ∧ (recordFault k d s).number = s.number := by
  unfold recordFault; simp

@[simp] theorem expirePeriod_frame (s : State) :
    (expirePeriod s).pending = s.pending ∧ (expirePeriod s).slot = s.slot ∧ (expirePeriod s).lines = s.lines ∧
      (expirePeriod s).loader = s.loader ∧ (expirePeriod s).membership = s.membership ∧ (expirePeriod s).mirror = s.mirror ∧
      (expirePeriod s).queue = s.queue ∧ (expirePeriod s).table = s.table ∧ (expirePeriod s).dataUnit = s.dataUnit ∧
      (expirePeriod s).port = s.port ∧ (expirePeriod s).counters = s.counters ∧ (expirePeriod s).memory = s.memory ∧
      (expirePeriod s).settings = s.settings ∧ (expirePeriod s).timing = s.timing ∧ (expirePeriod s).number = s.number := by
  unfold expirePeriod; dsimp only; (repeat' split) <;> simp

@[simp] theorem countPeriod_frame (s : State) :
    (countPeriod s).pending = s.pending ∧ (countPeriod s).slot = s.slot ∧ (countPeriod s).lines = s.lines ∧
      (countPeriod s).loader = s.loader ∧ (countPeriod s).membership = s.membership ∧ (countPeriod s).mirror = s.mirror ∧
      (countPeriod s).queue = s.queue ∧ (countPeriod s).table = s.table ∧ (countPeriod s).dataUnit = s.dataUnit ∧
      (countPeriod s).port = s.port ∧ (countPeriod s).counters = s.counters ∧ (countPeriod s).memory = s.memory ∧
      (countPeriod s).settings = s.settings ∧ (countPeriod s).timing = s.timing ∧ (countPeriod s).number = s.number := by
  unfold countPeriod; dsimp only; (repeat' split) <;> simp

@[simp] theorem startAccount_frame (s : State) :
    (startAccount s).pending = s.pending ∧ (startAccount s).slot = s.slot ∧ (startAccount s).lines = s.lines ∧
      (startAccount s).loader = s.loader ∧ (startAccount s).membership = s.membership ∧ (startAccount s).mirror = s.mirror ∧
      (startAccount s).queue = s.queue ∧ (startAccount s).table = s.table ∧ (startAccount s).dataUnit = s.dataUnit ∧
      (startAccount s).port = s.port ∧ (startAccount s).faults = s.faults ∧ (startAccount s).counters = s.counters ∧
      (startAccount s).memory = s.memory ∧ (startAccount s).settings = s.settings ∧ (startAccount s).timing = s.timing ∧
      (startAccount s).number = s.number := by
  unfold startAccount; simp

@[simp] theorem stopAccount_frame (s : State) :
    (stopAccount s).pending = s.pending ∧ (stopAccount s).slot = s.slot ∧ (stopAccount s).lines = s.lines ∧
      (stopAccount s).loader = s.loader ∧ (stopAccount s).membership = s.membership ∧ (stopAccount s).mirror = s.mirror ∧
      (stopAccount s).queue = s.queue ∧ (stopAccount s).table = s.table ∧ (stopAccount s).dataUnit = s.dataUnit ∧
      (stopAccount s).port = s.port ∧ (stopAccount s).counters = s.counters ∧ (stopAccount s).memory = s.memory ∧
      (stopAccount s).settings = s.settings ∧ (stopAccount s).timing = s.timing ∧ (stopAccount s).number = s.number := by
  unfold stopAccount; dsimp only; (repeat' split) <;> simp

@[simp] theorem accountCommand_frame (c : LaneCommand) (s : State) :
    (accountCommand c s).pending = s.pending ∧ (accountCommand c s).slot = s.slot ∧ (accountCommand c s).lines = s.lines ∧
      (accountCommand c s).loader = s.loader ∧ (accountCommand c s).membership = s.membership ∧ (accountCommand c s).mirror = s.mirror ∧
      (accountCommand c s).queue = s.queue ∧ (accountCommand c s).table = s.table ∧ (accountCommand c s).dataUnit = s.dataUnit ∧
      (accountCommand c s).port = s.port ∧ (accountCommand c s).faults = s.faults ∧ (accountCommand c s).counters = s.counters ∧
      (accountCommand c s).memory = s.memory ∧ (accountCommand c s).settings = s.settings ∧ (accountCommand c s).timing = s.timing ∧
      (accountCommand c s).number = s.number := by
  unfold accountCommand; dsimp only; (repeat' split) <;> simp

@[simp] theorem setDuty_frame (d : Option StationNo) (s : State) :
    (setDuty d s).pending = s.pending ∧ (setDuty d s).slot = s.slot ∧ (setDuty d s).work = s.work ∧
      (setDuty d s).lines = s.lines ∧ (setDuty d s).loader = s.loader ∧ (setDuty d s).membership = s.membership ∧
      (setDuty d s).mirror = s.mirror ∧ (setDuty d s).queue = s.queue ∧ (setDuty d s).table = s.table ∧
      (setDuty d s).dataUnit = s.dataUnit ∧ (setDuty d s).port = s.port ∧ (setDuty d s).faults = s.faults ∧
      (setDuty d s).counters = s.counters ∧ (setDuty d s).memory = s.memory ∧ (setDuty d s).settings = s.settings ∧
      (setDuty d s).timing = s.timing ∧ (setDuty d s).number = s.number := by
  unfold setDuty; dsimp only; simp

@[simp] theorem followRefresh_frame (s : State) :
    (followRefresh s).pending = s.pending ∧ (followRefresh s).slot = s.slot ∧ (followRefresh s).work = s.work ∧
      (followRefresh s).lines = s.lines ∧ (followRefresh s).loader = s.loader ∧ (followRefresh s).membership = s.membership ∧
      (followRefresh s).mirror = s.mirror ∧ (followRefresh s).queue = s.queue ∧ (followRefresh s).table = s.table ∧
      (followRefresh s).dataUnit = s.dataUnit ∧ (followRefresh s).port = s.port ∧ (followRefresh s).faults = s.faults ∧
      (followRefresh s).counters = s.counters ∧ (followRefresh s).memory = s.memory ∧ (followRefresh s).settings = s.settings ∧
      (followRefresh s).timing = s.timing ∧ (followRefresh s).number = s.number := by
  unfold followRefresh; (repeat' split) <;> simp

@[simp] theorem recastVote_frame (s : State) :
    (recastVote s).pending = s.pending ∧ (recastVote s).slot = s.slot ∧ (recastVote s).work = s.work ∧
      (recastVote s).lines = s.lines ∧ (recastVote s).loader = s.loader ∧ (recastVote s).membership = s.membership ∧
      (recastVote s).mirror = s.mirror ∧ (recastVote s).queue = s.queue ∧ (recastVote s).table = s.table ∧
      (recastVote s).dataUnit = s.dataUnit ∧ (recastVote s).port = s.port ∧ (recastVote s).faults = s.faults ∧
      (recastVote s).counters = s.counters ∧ (recastVote s).memory = s.memory ∧ (recastVote s).settings = s.settings ∧
      (recastVote s).timing = s.timing ∧ (recastVote s).number = s.number := by
  unfold recastVote; dsimp only; simp

@[simp] theorem withdrawVote_frame (s : State) :
    (withdrawVote s).pending = s.pending ∧ (withdrawVote s).slot = s.slot ∧ (withdrawVote s).work = s.work ∧
      (withdrawVote s).lines = s.lines ∧ (withdrawVote s).loader = s.loader ∧ (withdrawVote s).membership = s.membership ∧
      (withdrawVote s).mirror = s.mirror ∧ (withdrawVote s).queue = s.queue ∧ (withdrawVote s).table = s.table ∧
      (withdrawVote s).dataUnit = s.dataUnit ∧ (withdrawVote s).port = s.port ∧ (withdrawVote s).faults = s.faults ∧
      (withdrawVote s).counters = s.counters ∧ (withdrawVote s).memory = s.memory ∧ (withdrawVote s).settings = s.settings ∧
      (withdrawVote s).timing = s.timing ∧ (withdrawVote s).number = s.number := by
  unfold withdrawVote; dsimp only; simp

@[simp] theorem countIdle_frame (s : State) :
    (countIdle s).pending = s.pending ∧ (countIdle s).slot = s.slot ∧ (countIdle s).lines = s.lines ∧
      (countIdle s).loader = s.loader ∧ (countIdle s).membership = s.membership ∧ (countIdle s).mirror = s.mirror ∧
      (countIdle s).queue = s.queue ∧ (countIdle s).table = s.table ∧ (countIdle s).dataUnit = s.dataUnit ∧
      (countIdle s).port = s.port ∧ (countIdle s).faults = s.faults ∧ (countIdle s).counters = s.counters ∧
      (countIdle s).memory = s.memory ∧ (countIdle s).settings = s.settings ∧ (countIdle s).timing = s.timing ∧
      (countIdle s).number = s.number := by
  unfold countIdle; dsimp only; (repeat' split) <;> simp

@[simp] theorem settleAccount_frame (s : State) :
    (settleAccount s).pending = s.pending ∧ (settleAccount s).slot = s.slot ∧ (settleAccount s).lines = s.lines ∧
      (settleAccount s).loader = s.loader ∧ (settleAccount s).membership = s.membership ∧ (settleAccount s).mirror = s.mirror ∧
      (settleAccount s).queue = s.queue ∧ (settleAccount s).table = s.table ∧ (settleAccount s).dataUnit = s.dataUnit ∧
      (settleAccount s).port = s.port ∧ (settleAccount s).faults = s.faults ∧ (settleAccount s).counters = s.counters ∧
      (settleAccount s).memory = s.memory ∧ (settleAccount s).settings = s.settings ∧ (settleAccount s).timing = s.timing ∧
      (settleAccount s).number = s.number := by
  unfold settleAccount; dsimp only; (repeat' split) <;> simp

@[simp] theorem changeEntry_frame (tag : Tag) (f : Entry → Entry) (s : State) :
    (changeEntry tag f s).pending = s.pending ∧ (changeEntry tag f s).slot = s.slot ∧ (changeEntry tag f s).work = s.work ∧
      (changeEntry tag f s).lines = s.lines ∧ (changeEntry tag f s).loader = s.loader ∧ (changeEntry tag f s).membership = s.membership ∧
      (changeEntry tag f s).mirror = s.mirror ∧ (changeEntry tag f s).table = s.table ∧ (changeEntry tag f s).dataUnit = s.dataUnit ∧
      (changeEntry tag f s).controller = s.controller ∧ (changeEntry tag f s).port = s.port ∧ (changeEntry tag f s).faults = s.faults ∧
      (changeEntry tag f s).counters = s.counters ∧ (changeEntry tag f s).memory = s.memory ∧ (changeEntry tag f s).settings = s.settings ∧
      (changeEntry tag f s).timing = s.timing ∧ (changeEntry tag f s).number = s.number := by
  unfold changeEntry; simp

@[simp] theorem answerEntry_frame (tag : Tag) (o : EntryOutcome) (s : State) :
    (answerEntry tag o s).pending = s.pending ∧ (answerEntry tag o s).slot = s.slot ∧ (answerEntry tag o s).work = s.work ∧
      (answerEntry tag o s).lines = s.lines ∧ (answerEntry tag o s).loader = s.loader ∧ (answerEntry tag o s).membership = s.membership ∧
      (answerEntry tag o s).mirror = s.mirror ∧ (answerEntry tag o s).table = s.table ∧ (answerEntry tag o s).dataUnit = s.dataUnit ∧
      (answerEntry tag o s).controller = s.controller ∧ (answerEntry tag o s).port = s.port ∧ (answerEntry tag o s).faults = s.faults ∧
      (answerEntry tag o s).counters = s.counters ∧ (answerEntry tag o s).memory = s.memory ∧ (answerEntry tag o s).settings = s.settings ∧
      (answerEntry tag o s).timing = s.timing ∧ (answerEntry tag o s).number = s.number := by
  unfold answerEntry; simp

@[simp] theorem restartIdle_frame (s : State) :
    (restartIdle s).pending = s.pending ∧ (restartIdle s).slot = s.slot ∧ (restartIdle s).lines = s.lines ∧
      (restartIdle s).loader = s.loader ∧ (restartIdle s).membership = s.membership ∧ (restartIdle s).mirror = s.mirror ∧
      (restartIdle s).queue = s.queue ∧ (restartIdle s).table = s.table ∧ (restartIdle s).dataUnit = s.dataUnit ∧
      (restartIdle s).port = s.port ∧ (restartIdle s).faults = s.faults ∧ (restartIdle s).counters = s.counters ∧
      (restartIdle s).memory = s.memory ∧ (restartIdle s).settings = s.settings ∧ (restartIdle s).timing = s.timing ∧
      (restartIdle s).number = s.number := by
  unfold restartIdle; dsimp only; (repeat' split) <;> simp

@[simp] theorem retireDone_frame (closing : Bool) (s : State) :
    (retireDone closing s).pending = s.pending ∧ (retireDone closing s).slot = s.slot ∧ (retireDone closing s).lines = s.lines ∧
      (retireDone closing s).loader = s.loader ∧ (retireDone closing s).membership = s.membership ∧ (retireDone closing s).mirror = s.mirror ∧
      (retireDone closing s).table = s.table ∧ (retireDone closing s).dataUnit = s.dataUnit ∧ (retireDone closing s).faults = s.faults ∧
      (retireDone closing s).memory = s.memory ∧ (retireDone closing s).settings = s.settings ∧ (retireDone closing s).timing = s.timing ∧
      (retireDone closing s).number = s.number := by
  unfold retireDone; dsimp only; (repeat' split) <;> simp

@[simp] theorem dropFence_frame (s : State) :
    (dropFence s).pending = s.pending ∧ (dropFence s).slot = s.slot ∧ (dropFence s).work = s.work ∧
      (dropFence s).lines = s.lines ∧ (dropFence s).loader = s.loader ∧ (dropFence s).membership = s.membership ∧
      (dropFence s).queue = s.queue ∧ (dropFence s).table = s.table ∧ (dropFence s).controller = s.controller ∧
      (dropFence s).port = s.port ∧ (dropFence s).faults = s.faults ∧ (dropFence s).counters = s.counters ∧
      (dropFence s).memory = s.memory ∧ (dropFence s).settings = s.settings ∧ (dropFence s).timing = s.timing ∧
      (dropFence s).number = s.number := by
  unfold dropFence; dsimp only; simp

@[simp] theorem clearOwnFence_frame (s : State) :
    (clearOwnFence s).pending = s.pending ∧ (clearOwnFence s).slot = s.slot ∧ (clearOwnFence s).work = s.work ∧
      (clearOwnFence s).lines = s.lines ∧ (clearOwnFence s).loader = s.loader ∧ (clearOwnFence s).membership = s.membership ∧
      (clearOwnFence s).queue = s.queue ∧ (clearOwnFence s).table = s.table ∧ (clearOwnFence s).controller = s.controller ∧
      (clearOwnFence s).port = s.port ∧ (clearOwnFence s).faults = s.faults ∧ (clearOwnFence s).counters = s.counters ∧
      (clearOwnFence s).memory = s.memory ∧ (clearOwnFence s).settings = s.settings ∧ (clearOwnFence s).timing = s.timing ∧
      (clearOwnFence s).number = s.number := by
  unfold clearOwnFence; (repeat' split) <;> simp

@[simp] theorem clearFenceOf_frame (tag : Tag) (s : State) :
    (clearFenceOf tag s).pending = s.pending ∧ (clearFenceOf tag s).slot = s.slot ∧ (clearFenceOf tag s).work = s.work ∧
      (clearFenceOf tag s).lines = s.lines ∧ (clearFenceOf tag s).loader = s.loader ∧ (clearFenceOf tag s).membership = s.membership ∧
      (clearFenceOf tag s).queue = s.queue ∧ (clearFenceOf tag s).table = s.table ∧ (clearFenceOf tag s).controller = s.controller ∧
      (clearFenceOf tag s).port = s.port ∧ (clearFenceOf tag s).faults = s.faults ∧ (clearFenceOf tag s).counters = s.counters ∧
      (clearFenceOf tag s).memory = s.memory ∧ (clearFenceOf tag s).settings = s.settings ∧ (clearFenceOf tag s).timing = s.timing ∧
      (clearFenceOf tag s).number = s.number := by
  unfold clearFenceOf; dsimp only; (repeat' split) <;> simp

@[simp] theorem failWrite_frame (tag : Tag) (s : State) :
    (failWrite tag s).pending = s.pending ∧ (failWrite tag s).slot = s.slot ∧ (failWrite tag s).work = s.work ∧
      (failWrite tag s).lines = s.lines ∧ (failWrite tag s).loader = s.loader ∧ (failWrite tag s).membership = s.membership ∧
      (failWrite tag s).mirror = s.mirror ∧ (failWrite tag s).table = s.table ∧ (failWrite tag s).dataUnit = s.dataUnit ∧
      (failWrite tag s).controller = s.controller ∧ (failWrite tag s).port = s.port ∧ (failWrite tag s).counters = s.counters ∧
      (failWrite tag s).memory = s.memory ∧ (failWrite tag s).settings = s.settings ∧ (failWrite tag s).timing = s.timing ∧
      (failWrite tag s).number = s.number := by
  unfold failWrite; simp

@[simp] theorem failFencedEntry_frame (s : State) :
    (failFencedEntry s).pending = s.pending ∧ (failFencedEntry s).slot = s.slot ∧ (failFencedEntry s).work = s.work ∧
      (failFencedEntry s).lines = s.lines ∧ (failFencedEntry s).loader = s.loader ∧ (failFencedEntry s).membership = s.membership ∧
      (failFencedEntry s).mirror = s.mirror ∧ (failFencedEntry s).table = s.table ∧ (failFencedEntry s).dataUnit = s.dataUnit ∧
      (failFencedEntry s).controller = s.controller ∧ (failFencedEntry s).port = s.port ∧ (failFencedEntry s).counters = s.counters ∧
      (failFencedEntry s).memory = s.memory ∧ (failFencedEntry s).settings = s.settings ∧ (failFencedEntry s).timing = s.timing ∧
      (failFencedEntry s).number = s.number := by
  unfold failFencedEntry; (repeat' split) <;> simp

@[simp] theorem expireAlerted_frame (s : State) :
    (expireAlerted s).pending = s.pending ∧ (expireAlerted s).slot = s.slot ∧ (expireAlerted s).work = s.work ∧
      (expireAlerted s).lines = s.lines ∧ (expireAlerted s).loader = s.loader ∧ (expireAlerted s).membership = s.membership ∧
      (expireAlerted s).mirror = s.mirror ∧ (expireAlerted s).queue = s.queue ∧ (expireAlerted s).table = s.table ∧
      (expireAlerted s).controller = s.controller ∧ (expireAlerted s).port = s.port ∧ (expireAlerted s).faults = s.faults ∧
      (expireAlerted s).counters = s.counters ∧ (expireAlerted s).memory = s.memory ∧ (expireAlerted s).settings = s.settings ∧
      (expireAlerted s).timing = s.timing ∧ (expireAlerted s).number = s.number := by
  unfold expireAlerted; dsimp only; (repeat' split) <;> simp

@[simp] theorem expireFence_frame (s : State) :
    (expireFence s).pending = s.pending ∧ (expireFence s).slot = s.slot ∧ (expireFence s).work = s.work ∧
      (expireFence s).lines = s.lines ∧ (expireFence s).loader = s.loader ∧ (expireFence s).membership = s.membership ∧
      (expireFence s).table = s.table ∧ (expireFence s).controller = s.controller ∧ (expireFence s).port = s.port ∧
      (expireFence s).counters = s.counters ∧ (expireFence s).memory = s.memory ∧ (expireFence s).settings = s.settings ∧
      (expireFence s).timing = s.timing ∧ (expireFence s).number = s.number := by
  unfold expireFence; dsimp only; (repeat' split) <;> simp

@[simp] theorem doubtMirror_frame (s : State) :
    (doubtMirror s).pending = s.pending ∧ (doubtMirror s).slot = s.slot ∧ (doubtMirror s).work = s.work ∧
      (doubtMirror s).lines = s.lines ∧ (doubtMirror s).loader = s.loader ∧ (doubtMirror s).membership = s.membership ∧
      (doubtMirror s).queue = s.queue ∧ (doubtMirror s).table = s.table ∧ (doubtMirror s).dataUnit = s.dataUnit ∧
      (doubtMirror s).controller = s.controller ∧ (doubtMirror s).port = s.port ∧ (doubtMirror s).faults = s.faults ∧
      (doubtMirror s).counters = s.counters ∧ (doubtMirror s).memory = s.memory ∧ (doubtMirror s).settings = s.settings ∧
      (doubtMirror s).timing = s.timing ∧ (doubtMirror s).number = s.number := by
  unfold doubtMirror; dsimp only; simp

@[simp] theorem emptyTable_frame (s : State) :
    (emptyTable s).pending = s.pending ∧ (emptyTable s).slot = s.slot ∧ (emptyTable s).work = s.work ∧
      (emptyTable s).lines = s.lines ∧ (emptyTable s).loader = s.loader ∧ (emptyTable s).membership = s.membership ∧
      (emptyTable s).mirror = s.mirror ∧ (emptyTable s).queue = s.queue ∧ (emptyTable s).dataUnit = s.dataUnit ∧
      (emptyTable s).controller = s.controller ∧ (emptyTable s).port = s.port ∧ (emptyTable s).faults = s.faults ∧
      (emptyTable s).counters = s.counters ∧ (emptyTable s).memory = s.memory ∧ (emptyTable s).settings = s.settings ∧
      (emptyTable s).timing = s.timing ∧ (emptyTable s).number = s.number := by
  unfold emptyTable; simp

@[simp] theorem setState_frame (st : StationState) (s : State) :
    (setState st s).pending = s.pending ∧ (setState st s).slot = s.slot ∧ (setState st s).work = s.work ∧
      (setState st s).lines = s.lines ∧ (setState st s).loader = s.loader ∧ (setState st s).mirror = s.mirror ∧
      (setState st s).queue = s.queue ∧ (setState st s).table = s.table ∧ (setState st s).dataUnit = s.dataUnit ∧
      (setState st s).controller = s.controller ∧ (setState st s).port = s.port ∧ (setState st s).faults = s.faults ∧
      (setState st s).counters = s.counters ∧ (setState st s).memory = s.memory ∧ (setState st s).settings = s.settings ∧
      (setState st s).timing = s.timing ∧ (setState st s).number = s.number := by
  unfold setState; dsimp only; simp

@[simp] theorem leaveChannel_frame (st : StationState) (s : State) :
    (leaveChannel st s).pending = s.pending ∧ (leaveChannel st s).slot = s.slot ∧ (leaveChannel st s).lines = s.lines ∧
      (leaveChannel st s).loader = s.loader ∧ (leaveChannel st s).queue = s.queue ∧ (leaveChannel st s).port = s.port ∧
      (leaveChannel st s).counters = s.counters ∧ (leaveChannel st s).memory = s.memory ∧ (leaveChannel st s).settings = s.settings ∧
      (leaveChannel st s).timing = s.timing ∧ (leaveChannel st s).number = s.number := by
  unfold leaveChannel; dsimp only; simp

@[simp] theorem enterListening_frame (s : State) :
    (enterListening s).pending = s.pending ∧ (enterListening s).slot = s.slot ∧ (enterListening s).lines = s.lines ∧
      (enterListening s).loader = s.loader ∧ (enterListening s).queue = s.queue ∧ (enterListening s).port = s.port ∧
      (enterListening s).counters = s.counters ∧ (enterListening s).memory = s.memory ∧ (enterListening s).settings = s.settings ∧
      (enterListening s).timing = s.timing ∧ (enterListening s).number = s.number := by
  unfold enterListening; dsimp only; simp

@[simp] theorem enterWithdrawn_frame (s : State) :
    (enterWithdrawn s).pending = s.pending ∧ (enterWithdrawn s).slot = s.slot ∧ (enterWithdrawn s).lines = s.lines ∧
      (enterWithdrawn s).loader = s.loader ∧ (enterWithdrawn s).queue = s.queue ∧ (enterWithdrawn s).port = s.port ∧
      (enterWithdrawn s).counters = s.counters ∧ (enterWithdrawn s).memory = s.memory ∧ (enterWithdrawn s).settings = s.settings ∧
      (enterWithdrawn s).timing = s.timing ∧ (enterWithdrawn s).number = s.number := by
  unfold enterWithdrawn; simp

@[simp] theorem enterDetached_frame (s : State) :
    (enterDetached s).pending = s.pending ∧ (enterDetached s).slot = s.slot ∧ (enterDetached s).lines = s.lines ∧
      (enterDetached s).loader = s.loader ∧ (enterDetached s).queue = s.queue ∧ (enterDetached s).port = s.port ∧
      (enterDetached s).counters = s.counters ∧ (enterDetached s).memory = s.memory ∧ (enterDetached s).settings = s.settings ∧
      (enterDetached s).timing = s.timing ∧ (enterDetached s).number = s.number := by
  unfold enterDetached; simp

@[simp] theorem enterInitializing_frame (s : State) :
    (enterInitializing s).pending = s.pending ∧ (enterInitializing s).slot = s.slot ∧ (enterInitializing s).work = s.work ∧
      (enterInitializing s).lines = s.lines ∧ (enterInitializing s).loader = s.loader ∧ (enterInitializing s).queue = s.queue ∧
      (enterInitializing s).table = s.table ∧ (enterInitializing s).controller = s.controller ∧ (enterInitializing s).port = s.port ∧
      (enterInitializing s).faults = s.faults ∧ (enterInitializing s).counters = s.counters ∧ (enterInitializing s).memory = s.memory ∧
      (enterInitializing s).settings = s.settings ∧ (enterInitializing s).timing = s.timing ∧ (enterInitializing s).number = s.number := by
  unfold enterInitializing; dsimp only; simp

@[simp] theorem enterMember_frame (s : State) :
    (enterMember s).pending = s.pending ∧ (enterMember s).slot = s.slot ∧ (enterMember s).lines = s.lines ∧
      (enterMember s).loader = s.loader ∧ (enterMember s).mirror = s.mirror ∧ (enterMember s).queue = s.queue ∧
      (enterMember s).table = s.table ∧ (enterMember s).dataUnit = s.dataUnit ∧ (enterMember s).port = s.port ∧
      (enterMember s).faults = s.faults ∧ (enterMember s).counters = s.counters ∧ (enterMember s).memory = s.memory ∧
      (enterMember s).settings = s.settings ∧ (enterMember s).timing = s.timing ∧ (enterMember s).number = s.number := by
  unfold enterMember; dsimp only; simp

@[simp] theorem returnMember_frame (s : State) :
    (returnMember s).pending = s.pending ∧ (returnMember s).slot = s.slot ∧ (returnMember s).lines = s.lines ∧
      (returnMember s).loader = s.loader ∧ (returnMember s).mirror = s.mirror ∧ (returnMember s).queue = s.queue ∧
      (returnMember s).table = s.table ∧ (returnMember s).dataUnit = s.dataUnit ∧ (returnMember s).port = s.port ∧
      (returnMember s).faults = s.faults ∧ (returnMember s).counters = s.counters ∧ (returnMember s).memory = s.memory ∧
      (returnMember s).settings = s.settings ∧ (returnMember s).timing = s.timing ∧ (returnMember s).number = s.number := by
  unfold returnMember; dsimp only; simp

@[simp] theorem uncountReadRetry_frame (s : State) :
    (uncountReadRetry s).pending = s.pending ∧ (uncountReadRetry s).slot = s.slot ∧ (uncountReadRetry s).work = s.work ∧
      (uncountReadRetry s).lines = s.lines ∧ (uncountReadRetry s).loader = s.loader ∧ (uncountReadRetry s).membership = s.membership ∧
      (uncountReadRetry s).mirror = s.mirror ∧ (uncountReadRetry s).queue = s.queue ∧ (uncountReadRetry s).table = s.table ∧
      (uncountReadRetry s).dataUnit = s.dataUnit ∧ (uncountReadRetry s).controller = s.controller ∧ (uncountReadRetry s).port = s.port ∧
      (uncountReadRetry s).faults = s.faults ∧ (uncountReadRetry s).memory = s.memory ∧ (uncountReadRetry s).settings = s.settings ∧
      (uncountReadRetry s).timing = s.timing ∧ (uncountReadRetry s).number = s.number := by
  unfold uncountReadRetry; dsimp only; simp

@[simp] theorem loseWriteRetry_frame (e : Entry) (s : State) :
    (loseWriteRetry e s).pending = s.pending ∧ (loseWriteRetry e s).slot = s.slot ∧ (loseWriteRetry e s).work = s.work ∧
      (loseWriteRetry e s).lines = s.lines ∧ (loseWriteRetry e s).loader = s.loader ∧ (loseWriteRetry e s).membership = s.membership ∧
      (loseWriteRetry e s).table = s.table ∧ (loseWriteRetry e s).controller = s.controller ∧ (loseWriteRetry e s).port = s.port ∧
      (loseWriteRetry e s).counters = s.counters ∧ (loseWriteRetry e s).memory = s.memory ∧ (loseWriteRetry e s).settings = s.settings ∧
      (loseWriteRetry e s).timing = s.timing ∧ (loseWriteRetry e s).number = s.number := by
  unfold loseWriteRetry; simp

@[simp] theorem loseWriteRetries_frame (s : State) :
    (loseWriteRetries s).pending = s.pending ∧ (loseWriteRetries s).slot = s.slot ∧ (loseWriteRetries s).work = s.work ∧
      (loseWriteRetries s).lines = s.lines ∧ (loseWriteRetries s).loader = s.loader ∧ (loseWriteRetries s).membership = s.membership ∧
      (loseWriteRetries s).table = s.table ∧ (loseWriteRetries s).controller = s.controller ∧ (loseWriteRetries s).port = s.port ∧
      (loseWriteRetries s).counters = s.counters ∧ (loseWriteRetries s).memory = s.memory ∧ (loseWriteRetries s).settings = s.settings ∧
      (loseWriteRetries s).timing = s.timing ∧ (loseWriteRetries s).number = s.number := by
  unfold loseWriteRetries
  generalize List.filter _ s.queue = es
  induction es generalizing s with
  | nil => simp
  | cons e rest ih => simp only [List.foldl_cons]; have h := ih (loseWriteRetry e s); simpa using h

@[simp] theorem loseTrust_frame (s : State) :
    (loseTrust s).pending = s.pending ∧ (loseTrust s).slot = s.slot ∧ (loseTrust s).lines = s.lines ∧
      (loseTrust s).loader = s.loader ∧ (loseTrust s).membership = s.membership ∧ (loseTrust s).memory = s.memory ∧
      (loseTrust s).settings = s.settings ∧ (loseTrust s).timing = s.timing ∧ (loseTrust s).number = s.number := by
  unfold loseTrust; dsimp only; (repeat' split) <;> simp

@[simp] theorem enterResync_frame (s : State) :
    (enterResync s).pending = s.pending ∧ (enterResync s).slot = s.slot ∧ (enterResync s).lines = s.lines ∧
      (enterResync s).loader = s.loader ∧ (enterResync s).memory = s.memory ∧ (enterResync s).settings = s.settings ∧
      (enterResync s).timing = s.timing ∧ (enterResync s).number = s.number := by
  unfold enterResync; simp

@[simp] theorem setLeaveDoubt_frame (s : State) :
    (setLeaveDoubt s).pending = s.pending ∧ (setLeaveDoubt s).slot = s.slot ∧ (setLeaveDoubt s).lines = s.lines ∧
      (setLeaveDoubt s).loader = s.loader ∧ (setLeaveDoubt s).memory = s.memory ∧ (setLeaveDoubt s).settings = s.settings ∧
      (setLeaveDoubt s).timing = s.timing ∧ (setLeaveDoubt s).number = s.number := by
  unfold setLeaveDoubt; dsimp only; simp

@[simp] theorem takeDoubt_frame (s : State) :
    (takeDoubt s).pending = s.pending ∧ (takeDoubt s).slot = s.slot ∧ (takeDoubt s).lines = s.lines ∧
      (takeDoubt s).loader = s.loader ∧ (takeDoubt s).memory = s.memory ∧ (takeDoubt s).settings = s.settings ∧
      (takeDoubt s).timing = s.timing ∧ (takeDoubt s).number = s.number := by
  unfold takeDoubt; (repeat' split) <;> simp

@[simp] theorem drainEntry_frame (e : Entry) (s : State) :
    (drainEntry e s).pending = s.pending ∧ (drainEntry e s).slot = s.slot ∧ (drainEntry e s).work = s.work ∧
      (drainEntry e s).lines = s.lines ∧ (drainEntry e s).loader = s.loader ∧ (drainEntry e s).membership = s.membership ∧
      (drainEntry e s).mirror = s.mirror ∧ (drainEntry e s).table = s.table ∧ (drainEntry e s).dataUnit = s.dataUnit ∧
      (drainEntry e s).controller = s.controller ∧ (drainEntry e s).port = s.port ∧ (drainEntry e s).memory = s.memory ∧
      (drainEntry e s).settings = s.settings ∧ (drainEntry e s).timing = s.timing ∧ (drainEntry e s).number = s.number := by
  unfold drainEntry; (repeat' split) <;> simp

@[simp] theorem drainEntries_frame (s : State) :
    (drainEntries s).pending = s.pending ∧ (drainEntries s).slot = s.slot ∧ (drainEntries s).work = s.work ∧
      (drainEntries s).lines = s.lines ∧ (drainEntries s).loader = s.loader ∧ (drainEntries s).membership = s.membership ∧
      (drainEntries s).mirror = s.mirror ∧ (drainEntries s).table = s.table ∧ (drainEntries s).dataUnit = s.dataUnit ∧
      (drainEntries s).controller = s.controller ∧ (drainEntries s).port = s.port ∧ (drainEntries s).memory = s.memory ∧
      (drainEntries s).settings = s.settings ∧ (drainEntries s).timing = s.timing ∧ (drainEntries s).number = s.number := by
  unfold drainEntries
  generalize List.filter _ s.queue = es
  induction es generalizing s with
  | nil => simp
  | cons e rest ih => simp only [List.foldl_cons]; have h := ih (drainEntry e s); simpa using h

@[simp] theorem enterDraining_frame (target : DrainTarget) (s : State) :
    (enterDraining target s).pending = s.pending ∧ (enterDraining target s).slot = s.slot ∧ (enterDraining target s).lines = s.lines ∧
      (enterDraining target s).loader = s.loader ∧ (enterDraining target s).memory = s.memory ∧ (enterDraining target s).settings = s.settings ∧
      (enterDraining target s).timing = s.timing ∧ (enterDraining target s).number = s.number := by
  unfold enterDraining; dsimp only; simp

@[simp] theorem withdrawByDrain_frame (s : State) :
    (withdrawByDrain s).pending = s.pending ∧ (withdrawByDrain s).slot = s.slot ∧ (withdrawByDrain s).lines = s.lines ∧
      (withdrawByDrain s).loader = s.loader ∧ (withdrawByDrain s).memory = s.memory ∧ (withdrawByDrain s).settings = s.settings ∧
      (withdrawByDrain s).timing = s.timing ∧ (withdrawByDrain s).number = s.number := by
  unfold withdrawByDrain; dsimp only; (repeat' split) <;> simp

@[simp] theorem checkNumber_frame (s : State) :
    (checkNumber s).pending = s.pending ∧ (checkNumber s).slot = s.slot ∧ (checkNumber s).lines = s.lines ∧
      (checkNumber s).loader = s.loader ∧ (checkNumber s).queue = s.queue ∧ (checkNumber s).port = s.port ∧
      (checkNumber s).counters = s.counters ∧ (checkNumber s).memory = s.memory ∧ (checkNumber s).settings = s.settings ∧
      (checkNumber s).timing = s.timing ∧ (checkNumber s).number = s.number := by
  unfold checkNumber; (repeat' split) <;> simp

@[simp] theorem resetPermission_frame (s : State) :
    (resetPermission s).pending = s.pending ∧ (resetPermission s).slot = s.slot ∧ (resetPermission s).work = s.work ∧
      (resetPermission s).lines = s.lines ∧ (resetPermission s).loader = s.loader ∧ (resetPermission s).membership = s.membership ∧
      (resetPermission s).mirror = s.mirror ∧ (resetPermission s).queue = s.queue ∧ (resetPermission s).table = s.table ∧
      (resetPermission s).dataUnit = s.dataUnit ∧ (resetPermission s).port = s.port ∧ (resetPermission s).faults = s.faults ∧
      (resetPermission s).counters = s.counters ∧ (resetPermission s).memory = s.memory ∧ (resetPermission s).settings = s.settings ∧
      (resetPermission s).timing = s.timing ∧ (resetPermission s).number = s.number := by
  unfold resetPermission; dsimp only; (repeat' split) <;> simp

@[simp] theorem badRecord_frame (detail : Nat) (s : State) :
    (badRecord detail s).pending = s.pending ∧ (badRecord detail s).slot = s.slot ∧ (badRecord detail s).lines = s.lines ∧
      (badRecord detail s).loader = s.loader ∧ (badRecord detail s).queue = s.queue ∧ (badRecord detail s).port = s.port ∧
      (badRecord detail s).counters = s.counters ∧ (badRecord detail s).memory = s.memory ∧ (badRecord detail s).settings = s.settings ∧
      (badRecord detail s).timing = s.timing ∧ (badRecord detail s).number = s.number := by
  unfold badRecord; simp

@[simp] theorem recheckRecord_frame (s : State) :
    (recheckRecord s).pending = s.pending ∧ (recheckRecord s).slot = s.slot ∧ (recheckRecord s).lines = s.lines ∧
      (recheckRecord s).loader = s.loader ∧ (recheckRecord s).queue = s.queue ∧ (recheckRecord s).port = s.port ∧
      (recheckRecord s).counters = s.counters ∧ (recheckRecord s).memory = s.memory ∧ (recheckRecord s).settings = s.settings ∧
      (recheckRecord s).timing = s.timing ∧ (recheckRecord s).number = s.number := by
  unfold recheckRecord; dsimp only; (repeat' split) <;> simp

@[simp] theorem endDrain_frame (s : State) :
    (endDrain s).pending = s.pending ∧ (endDrain s).slot = s.slot ∧ (endDrain s).lines = s.lines ∧
      (endDrain s).loader = s.loader ∧ (endDrain s).queue = s.queue ∧ (endDrain s).port = s.port ∧
      (endDrain s).counters = s.counters ∧ (endDrain s).memory = s.memory ∧ (endDrain s).settings = s.settings ∧
      (endDrain s).timing = s.timing ∧ (endDrain s).number = s.number := by
  unfold endDrain; (repeat' split) <;> simp

end Sys2Proof.Machine
end

