-- ==== Sys2Proof/Laws/Data.lean ====
section
/-! SUPPORT. The frames of the Data Unit's and the Claim Unit's operations: the blocks of the state that the
operation leaves as they are, whatever it does. -/

namespace Sys2Proof.Machine

@[simp] theorem driveBurst_frame (s : State) :
    (driveBurst s).pending = s.pending ∧ (driveBurst s).slot = s.slot ∧ (driveBurst s).work = s.work ∧
      (driveBurst s).lines = s.lines ∧ (driveBurst s).loader = s.loader ∧ (driveBurst s).membership = s.membership ∧
      (driveBurst s).mirror = s.mirror ∧ (driveBurst s).queue = s.queue ∧ (driveBurst s).table = s.table ∧
      (driveBurst s).controller = s.controller ∧ (driveBurst s).port = s.port ∧ (driveBurst s).faults = s.faults ∧
      (driveBurst s).counters = s.counters ∧ (driveBurst s).memory = s.memory ∧ (driveBurst s).settings = s.settings ∧
      (driveBurst s).timing = s.timing ∧ (driveBurst s).number = s.number := by
  unfold driveBurst; dsimp only; (repeat' split) <;> simp

@[simp] theorem failRead_frame (tag : Tag) (m : MemFields) (s : State) :
    (failRead tag m s).pending = s.pending ∧ (failRead tag m s).slot = s.slot ∧ (failRead tag m s).work = s.work ∧
      (failRead tag m s).lines = s.lines ∧ (failRead tag m s).loader = s.loader ∧ (failRead tag m s).membership = s.membership ∧
      (failRead tag m s).mirror = s.mirror ∧ (failRead tag m s).dataUnit = s.dataUnit ∧ (failRead tag m s).controller = s.controller ∧
      (failRead tag m s).port = s.port ∧ (failRead tag m s).counters = s.counters ∧ (failRead tag m s).memory = s.memory ∧
      (failRead tag m s).settings = s.settings ∧ (failRead tag m s).timing = s.timing ∧ (failRead tag m s).number = s.number := by
  unfold failRead; dsimp only; (repeat' split) <;> simp

@[simp] theorem retryRead_frame (tag : Tag) (s : State) :
    (retryRead tag s).pending = s.pending ∧ (retryRead tag s).slot = s.slot ∧ (retryRead tag s).work = s.work ∧
      (retryRead tag s).lines = s.lines ∧ (retryRead tag s).loader = s.loader ∧ (retryRead tag s).membership = s.membership ∧
      (retryRead tag s).mirror = s.mirror ∧ (retryRead tag s).table = s.table ∧ (retryRead tag s).dataUnit = s.dataUnit ∧
      (retryRead tag s).controller = s.controller ∧ (retryRead tag s).port = s.port ∧ (retryRead tag s).faults = s.faults ∧
      (retryRead tag s).memory = s.memory ∧ (retryRead tag s).settings = s.settings ∧ (retryRead tag s).timing = s.timing ∧
      (retryRead tag s).number = s.number := by
  unfold retryRead; dsimp only; simp

@[simp] theorem judgeRead_frame (tag : Tag) (m : MemFields) (s : State) :
    (judgeRead tag m s).pending = s.pending ∧ (judgeRead tag m s).slot = s.slot ∧ (judgeRead tag m s).work = s.work ∧
      (judgeRead tag m s).lines = s.lines ∧ (judgeRead tag m s).loader = s.loader ∧ (judgeRead tag m s).membership = s.membership ∧
      (judgeRead tag m s).mirror = s.mirror ∧ (judgeRead tag m s).dataUnit = s.dataUnit ∧ (judgeRead tag m s).controller = s.controller ∧
      (judgeRead tag m s).port = s.port ∧ (judgeRead tag m s).memory = s.memory ∧ (judgeRead tag m s).settings = s.settings ∧
      (judgeRead tag m s).timing = s.timing ∧ (judgeRead tag m s).number = s.number := by
  unfold judgeRead; (repeat' split) <;> simp

@[simp] theorem captureBurst_frame (data : BurstData) (check : Byte) (s : State) :
    (captureBurst data check s).pending = s.pending ∧ (captureBurst data check s).slot = s.slot ∧ (captureBurst data check s).lines = s.lines ∧
      (captureBurst data check s).loader = s.loader ∧ (captureBurst data check s).membership = s.membership ∧ (captureBurst data check s).mirror = s.mirror ∧
      (captureBurst data check s).dataUnit = s.dataUnit ∧ (captureBurst data check s).memory = s.memory ∧ (captureBurst data check s).settings = s.settings ∧
      (captureBurst data check s).timing = s.timing ∧ (captureBurst data check s).number = s.number := by
  unfold captureBurst; dsimp only; (repeat' split) <;> simp

@[simp] theorem expireWindows_frame (s : State) :
    (expireWindows s).pending = s.pending ∧ (expireWindows s).slot = s.slot ∧ (expireWindows s).work = s.work ∧
      (expireWindows s).lines = s.lines ∧ (expireWindows s).loader = s.loader ∧ (expireWindows s).membership = s.membership ∧
      (expireWindows s).mirror = s.mirror ∧ (expireWindows s).table = s.table ∧ (expireWindows s).dataUnit = s.dataUnit ∧
      (expireWindows s).controller = s.controller ∧ (expireWindows s).port = s.port ∧ (expireWindows s).faults = s.faults ∧
      (expireWindows s).counters = s.counters ∧ (expireWindows s).memory = s.memory ∧ (expireWindows s).settings = s.settings ∧
      (expireWindows s).timing = s.timing ∧ (expireWindows s).number = s.number := by
  unfold expireWindows; simp

@[simp] theorem clearFenceOver_frame (e : Entry) (s : State) :
    (clearFenceOver e s).pending = s.pending ∧ (clearFenceOver e s).slot = s.slot ∧ (clearFenceOver e s).work = s.work ∧
      (clearFenceOver e s).lines = s.lines ∧ (clearFenceOver e s).loader = s.loader ∧ (clearFenceOver e s).membership = s.membership ∧
      (clearFenceOver e s).queue = s.queue ∧ (clearFenceOver e s).table = s.table ∧ (clearFenceOver e s).controller = s.controller ∧
      (clearFenceOver e s).port = s.port ∧ (clearFenceOver e s).faults = s.faults ∧ (clearFenceOver e s).counters = s.counters ∧
      (clearFenceOver e s).memory = s.memory ∧ (clearFenceOver e s).settings = s.settings ∧ (clearFenceOver e s).timing = s.timing ∧
      (clearFenceOver e s).number = s.number := by
  unfold clearFenceOver; (repeat' split) <;> simp

@[simp] theorem refuseOwnWrite_frame (s : State) :
    (refuseOwnWrite s).pending = s.pending ∧ (refuseOwnWrite s).slot = s.slot ∧ (refuseOwnWrite s).work = s.work ∧
      (refuseOwnWrite s).lines = s.lines ∧ (refuseOwnWrite s).loader = s.loader ∧ (refuseOwnWrite s).membership = s.membership ∧
      (refuseOwnWrite s).table = s.table ∧ (refuseOwnWrite s).controller = s.controller ∧ (refuseOwnWrite s).port = s.port ∧
      (refuseOwnWrite s).counters = s.counters ∧ (refuseOwnWrite s).memory = s.memory ∧ (refuseOwnWrite s).settings = s.settings ∧
      (refuseOwnWrite s).timing = s.timing ∧ (refuseOwnWrite s).number = s.number := by
  unfold refuseOwnWrite; (repeat' split) <;> simp

@[simp] theorem takeCommandAlert_frame (s : State) :
    (takeCommandAlert s).pending = s.pending ∧ (takeCommandAlert s).slot = s.slot ∧ (takeCommandAlert s).lines = s.lines ∧
      (takeCommandAlert s).loader = s.loader ∧ (takeCommandAlert s).memory = s.memory ∧ (takeCommandAlert s).settings = s.settings ∧
      (takeCommandAlert s).timing = s.timing ∧ (takeCommandAlert s).number = s.number := by
  unfold takeCommandAlert; dsimp only; (repeat' split) <;> simp

@[simp] theorem retryWrite_frame (tag : Tag) (s : State) :
    (retryWrite tag s).pending = s.pending ∧ (retryWrite tag s).slot = s.slot ∧ (retryWrite tag s).work = s.work ∧
      (retryWrite tag s).lines = s.lines ∧ (retryWrite tag s).loader = s.loader ∧ (retryWrite tag s).membership = s.membership ∧
      (retryWrite tag s).mirror = s.mirror ∧ (retryWrite tag s).table = s.table ∧ (retryWrite tag s).dataUnit = s.dataUnit ∧
      (retryWrite tag s).controller = s.controller ∧ (retryWrite tag s).port = s.port ∧ (retryWrite tag s).faults = s.faults ∧
      (retryWrite tag s).memory = s.memory ∧ (retryWrite tag s).settings = s.settings ∧ (retryWrite tag s).timing = s.timing ∧
      (retryWrite tag s).number = s.number := by
  unfold retryWrite; dsimp only; simp

@[simp] theorem answerAlerted_frame (e : Entry) (s : State) :
    (answerAlerted e s).pending = s.pending ∧ (answerAlerted e s).slot = s.slot ∧ (answerAlerted e s).lines = s.lines ∧
      (answerAlerted e s).loader = s.loader ∧ (answerAlerted e s).membership = s.membership ∧ (answerAlerted e s).mirror = s.mirror ∧
      (answerAlerted e s).table = s.table ∧ (answerAlerted e s).dataUnit = s.dataUnit ∧ (answerAlerted e s).controller = s.controller ∧
      (answerAlerted e s).port = s.port ∧ (answerAlerted e s).memory = s.memory ∧ (answerAlerted e s).settings = s.settings ∧
      (answerAlerted e s).timing = s.timing ∧ (answerAlerted e s).number = s.number := by
  unfold answerAlerted; dsimp only; (repeat' split) <;> simp

@[simp] theorem judgeAlerted_frame (closing : Bool) (s : State) :
    (judgeAlerted closing s).pending = s.pending ∧ (judgeAlerted closing s).slot = s.slot ∧ (judgeAlerted closing s).lines = s.lines ∧
      (judgeAlerted closing s).loader = s.loader ∧ (judgeAlerted closing s).membership = s.membership ∧ (judgeAlerted closing s).mirror = s.mirror ∧
      (judgeAlerted closing s).table = s.table ∧ (judgeAlerted closing s).dataUnit = s.dataUnit ∧ (judgeAlerted closing s).controller = s.controller ∧
      (judgeAlerted closing s).port = s.port ∧ (judgeAlerted closing s).memory = s.memory ∧ (judgeAlerted closing s).settings = s.settings ∧
      (judgeAlerted closing s).timing = s.timing ∧ (judgeAlerted closing s).number = s.number := by
  unfold judgeAlerted; (repeat' split) <;> simp

@[simp] theorem takeAttributed_frame (a : Attribution) (s : State) :
    (takeAttributed a s).pending = s.pending ∧ (takeAttributed a s).slot = s.slot ∧ (takeAttributed a s).lines = s.lines ∧
      (takeAttributed a s).loader = s.loader ∧ (takeAttributed a s).membership = s.membership ∧ (takeAttributed a s).mirror = s.mirror ∧
      (takeAttributed a s).table = s.table ∧ (takeAttributed a s).memory = s.memory ∧ (takeAttributed a s).settings = s.settings ∧
      (takeAttributed a s).timing = s.timing ∧ (takeAttributed a s).number = s.number := by
  unfold takeAttributed; dsimp only; (repeat' split) <;> simp

@[simp] theorem writeCheckAlert_frame (s : State) :
    (writeCheckAlert s).pending = s.pending ∧ (writeCheckAlert s).slot = s.slot ∧ (writeCheckAlert s).lines = s.lines ∧
      (writeCheckAlert s).loader = s.loader ∧ (writeCheckAlert s).membership = s.membership ∧ (writeCheckAlert s).mirror = s.mirror ∧
      (writeCheckAlert s).table = s.table ∧ (writeCheckAlert s).memory = s.memory ∧ (writeCheckAlert s).settings = s.settings ∧
      (writeCheckAlert s).timing = s.timing ∧ (writeCheckAlert s).number = s.number := by
  unfold writeCheckAlert; dsimp only; (repeat' split) <;> simp

@[simp] theorem settleFence_frame (a : Attribution) (s : State) :
    (settleFence a s).pending = s.pending ∧ (settleFence a s).slot = s.slot ∧ (settleFence a s).work = s.work ∧
      (settleFence a s).lines = s.lines ∧ (settleFence a s).loader = s.loader ∧ (settleFence a s).membership = s.membership ∧
      (settleFence a s).table = s.table ∧ (settleFence a s).controller = s.controller ∧ (settleFence a s).port = s.port ∧
      (settleFence a s).counters = s.counters ∧ (settleFence a s).memory = s.memory ∧ (settleFence a s).settings = s.settings ∧
      (settleFence a s).timing = s.timing ∧ (settleFence a s).number = s.number := by
  unfold settleFence; dsimp only; (repeat' split) <;> simp

@[simp] theorem closeAlert_frame (s : State) :
    (closeAlert s).pending = s.pending ∧ (closeAlert s).slot = s.slot ∧ (closeAlert s).lines = s.lines ∧
      (closeAlert s).loader = s.loader ∧ (closeAlert s).membership = s.membership ∧ (closeAlert s).table = s.table ∧
      (closeAlert s).controller = s.controller ∧ (closeAlert s).port = s.port ∧ (closeAlert s).memory = s.memory ∧
      (closeAlert s).settings = s.settings ∧ (closeAlert s).timing = s.timing ∧ (closeAlert s).number = s.number := by
  unfold closeAlert; (repeat' split) <;> simp

@[simp] theorem commandErrorAlert_frame (s : State) :
    (commandErrorAlert s).pending = s.pending ∧ (commandErrorAlert s).slot = s.slot ∧ (commandErrorAlert s).lines = s.lines ∧
      (commandErrorAlert s).loader = s.loader ∧ (commandErrorAlert s).memory = s.memory ∧ (commandErrorAlert s).settings = s.settings ∧
      (commandErrorAlert s).timing = s.timing ∧ (commandErrorAlert s).number = s.number := by
  unfold commandErrorAlert; dsimp only; (repeat' split) <;> simp

@[simp] theorem claimPhase_frame (peers : ClaimBits) (s : State) :
    (claimPhase peers s).pending = s.pending ∧ (claimPhase peers s).slot = s.slot ∧ (claimPhase peers s).lines = s.lines ∧
      (claimPhase peers s).loader = s.loader ∧ (claimPhase peers s).membership = s.membership ∧ (claimPhase peers s).table = s.table ∧
      (claimPhase peers s).controller = s.controller ∧ (claimPhase peers s).port = s.port ∧ (claimPhase peers s).memory = s.memory ∧
      (claimPhase peers s).settings = s.settings ∧ (claimPhase peers s).timing = s.timing ∧ (claimPhase peers s).number = s.number := by
  unfold claimPhase; dsimp only; simp

@[simp] theorem issueColumn_frame (e : Entry) (m : MemFields) (s : State) :
    (issueColumn e m s).pending = s.pending ∧ (issueColumn e m s).slot = s.slot ∧ (issueColumn e m s).work = s.work ∧
      (issueColumn e m s).lines = s.lines ∧ (issueColumn e m s).loader = s.loader ∧ (issueColumn e m s).membership = s.membership ∧
      (issueColumn e m s).mirror = s.mirror ∧ (issueColumn e m s).dataUnit = s.dataUnit ∧ (issueColumn e m s).controller = s.controller ∧
      (issueColumn e m s).port = s.port ∧ (issueColumn e m s).faults = s.faults ∧ (issueColumn e m s).counters = s.counters ∧
      (issueColumn e m s).memory = s.memory ∧ (issueColumn e m s).settings = s.settings ∧ (issueColumn e m s).timing = s.timing ∧
      (issueColumn e m s).number = s.number := by
  unfold issueColumn; dsimp only; simp

@[simp] theorem takeIssue_frame (c : Candidate) (s : State) :
    (takeIssue c s).pending = s.pending ∧ (takeIssue c s).slot = s.slot ∧ (takeIssue c s).work = s.work ∧
      (takeIssue c s).lines = s.lines ∧ (takeIssue c s).loader = s.loader ∧ (takeIssue c s).membership = s.membership ∧
      (takeIssue c s).mirror = s.mirror ∧ (takeIssue c s).dataUnit = s.dataUnit ∧ (takeIssue c s).controller = s.controller ∧
      (takeIssue c s).port = s.port ∧ (takeIssue c s).faults = s.faults ∧ (takeIssue c s).memory = s.memory ∧
      (takeIssue c s).settings = s.settings ∧ (takeIssue c s).timing = s.timing ∧ (takeIssue c s).number = s.number := by
  unfold takeIssue; dsimp only; (repeat' split) <;> simp

@[simp] theorem claimFault_frame (sampled : LaneBits) (s : State) :
    (claimFault sampled s).pending = s.pending ∧ (claimFault sampled s).slot = s.slot ∧ (claimFault sampled s).lines = s.lines ∧
      (claimFault sampled s).loader = s.loader ∧ (claimFault sampled s).memory = s.memory ∧ (claimFault sampled s).settings = s.settings ∧
      (claimFault sampled s).timing = s.timing ∧ (claimFault sampled s).number = s.number := by
  unfold claimFault; dsimp only; simp

@[simp] theorem readBack_frame (sampled : LaneBits) (s : State) :
    (readBack sampled s).pending = s.pending ∧ (readBack sampled s).slot = s.slot ∧ (readBack sampled s).lines = s.lines ∧
      (readBack sampled s).loader = s.loader ∧ (readBack sampled s).memory = s.memory ∧ (readBack sampled s).settings = s.settings ∧
      (readBack sampled s).timing = s.timing ∧ (readBack sampled s).number = s.number := by
  unfold readBack; dsimp only; (repeat' split) <;> simp

@[simp] theorem startSlot_frame (s : State) :
    (startSlot s).pending = s.pending ∧ (startSlot s).slot = s.slot ∧ (startSlot s).work = s.work ∧
      (startSlot s).lines = s.lines ∧ (startSlot s).loader = s.loader ∧ (startSlot s).membership = s.membership ∧
      (startSlot s).table = s.table ∧ (startSlot s).controller = s.controller ∧ (startSlot s).port = s.port ∧
      (startSlot s).counters = s.counters ∧ (startSlot s).memory = s.memory ∧ (startSlot s).settings = s.settings ∧
      (startSlot s).timing = s.timing ∧ (startSlot s).number = s.number := by
  unfold startSlot; simp

@[simp] theorem defaultClaim_frame (s : State) :
    (defaultClaim s).pending = s.pending ∧ (defaultClaim s).slot = s.slot ∧ (defaultClaim s).lines = s.lines ∧
      (defaultClaim s).loader = s.loader ∧ (defaultClaim s).membership = s.membership ∧ (defaultClaim s).table = s.table ∧
      (defaultClaim s).controller = s.controller ∧ (defaultClaim s).port = s.port ∧ (defaultClaim s).memory = s.memory ∧
      (defaultClaim s).settings = s.settings ∧ (defaultClaim s).timing = s.timing ∧ (defaultClaim s).number = s.number := by
  unfold defaultClaim; (repeat' split) <;> simp

@[simp] theorem defaultReadBack_frame (s : State) :
    (defaultReadBack s).pending = s.pending ∧ (defaultReadBack s).slot = s.slot ∧ (defaultReadBack s).lines = s.lines ∧
      (defaultReadBack s).loader = s.loader ∧ (defaultReadBack s).membership = s.membership ∧ (defaultReadBack s).mirror = s.mirror ∧
      (defaultReadBack s).dataUnit = s.dataUnit ∧ (defaultReadBack s).controller = s.controller ∧ (defaultReadBack s).port = s.port ∧
      (defaultReadBack s).faults = s.faults ∧ (defaultReadBack s).memory = s.memory ∧ (defaultReadBack s).settings = s.settings ∧
      (defaultReadBack s).timing = s.timing ∧ (defaultReadBack s).number = s.number := by
  unfold defaultReadBack
  split
  · simp
  · next k h => unfold readBack; rw [h]; simp [drivenWord]

@[simp] theorem reachEnd_frame (s : State) :
    (reachEnd s).pending = s.pending ∧ (reachEnd s).slot = s.slot ∧ (reachEnd s).lines = s.lines ∧
      (reachEnd s).loader = s.loader ∧ (reachEnd s).membership = s.membership ∧ (reachEnd s).controller = s.controller ∧
      (reachEnd s).port = s.port ∧ (reachEnd s).memory = s.memory ∧ (reachEnd s).settings = s.settings ∧
      (reachEnd s).timing = s.timing ∧ (reachEnd s).number = s.number := by
  unfold reachEnd; (repeat' split) <;> simp

@[simp] theorem claimBefore_frame (w : LaneBits) (s : State) :
    (claimBefore w s).pending = s.pending ∧ (claimBefore w s).slot = s.slot ∧ (claimBefore w s).lines = s.lines ∧
      (claimBefore w s).loader = s.loader ∧ (claimBefore w s).membership = s.membership ∧ (claimBefore w s).table = s.table ∧
      (claimBefore w s).controller = s.controller ∧ (claimBefore w s).port = s.port ∧ (claimBefore w s).memory = s.memory ∧
      (claimBefore w s).settings = s.settings ∧ (claimBefore w s).timing = s.timing ∧ (claimBefore w s).number = s.number := by
  unfold claimBefore; (repeat' split) <;> simp

@[simp] theorem reachObservation_frame (w : LaneBits) (s : State) :
    (reachObservation w s).pending = s.pending ∧ (reachObservation w s).slot = s.slot ∧ (reachObservation w s).lines = s.lines ∧
      (reachObservation w s).loader = s.loader ∧ (reachObservation w s).memory = s.memory ∧ (reachObservation w s).settings = s.settings ∧
      (reachObservation w s).timing = s.timing ∧ (reachObservation w s).number = s.number := by
  unfold reachObservation; (repeat' split) <;> simp

@[simp] theorem missedEvents_frame (e : Entry) (s : State) :
    (missedEvents e s).pending = s.pending ∧ (missedEvents e s).slot = s.slot ∧ (missedEvents e s).lines = s.lines ∧
      (missedEvents e s).loader = s.loader ∧ (missedEvents e s).membership = s.membership ∧
      (missedEvents e s).table = s.table ∧ (missedEvents e s).memory = s.memory ∧
      (missedEvents e s).settings = s.settings ∧ (missedEvents e s).timing = s.timing ∧
      (missedEvents e s).number = s.number := by
  unfold missedEvents; (repeat' split) <;> simp

@[simp] theorem takeBackColumn_frame (tag : Tag) (s : State) :
    (takeBackColumn tag s).pending = s.pending ∧ (takeBackColumn tag s).slot = s.slot ∧
      (takeBackColumn tag s).lines = s.lines ∧ (takeBackColumn tag s).loader = s.loader ∧
      (takeBackColumn tag s).membership = s.membership ∧ (takeBackColumn tag s).table = s.table ∧
      (takeBackColumn tag s).memory = s.memory ∧ (takeBackColumn tag s).settings = s.settings ∧
      (takeBackColumn tag s).timing = s.timing ∧ (takeBackColumn tag s).number = s.number := by
  unfold takeBackColumn; (repeat' split) <;> simp

@[simp] theorem takeBackIssue_frame (c : Candidate) (s : State) :
    (takeBackIssue c s).pending = s.pending ∧ (takeBackIssue c s).slot = s.slot ∧ (takeBackIssue c s).lines = s.lines ∧
      (takeBackIssue c s).loader = s.loader ∧ (takeBackIssue c s).membership = s.membership ∧
      (takeBackIssue c s).table = s.table ∧ (takeBackIssue c s).memory = s.memory ∧
      (takeBackIssue c s).settings = s.settings ∧ (takeBackIssue c s).timing = s.timing ∧
      (takeBackIssue c s).number = s.number := by
  unfold takeBackIssue; (repeat' split) <;> simp

@[simp] theorem lateReadBack_frame (sampled : LaneBits) (s : State) :
    (lateReadBack sampled s).pending = s.pending ∧ (lateReadBack sampled s).slot = s.slot ∧
      (lateReadBack sampled s).lines = s.lines ∧ (lateReadBack sampled s).loader = s.loader ∧
      (lateReadBack sampled s).memory = s.memory ∧ (lateReadBack sampled s).settings = s.settings ∧
      (lateReadBack sampled s).timing = s.timing ∧ (lateReadBack sampled s).number = s.number := by
  unfold lateReadBack; dsimp only; (repeat' split) <;> simp

end Sys2Proof.Machine
end

