-- ==== Sys2Proof/Laws/Observe.lean ====
section
/-! SUPPORT. The frames of the observation of a command phase, the line samples and the end of a slot: the blocks of the state that the
operation leaves as they are, whatever it does. -/

namespace Sys2Proof.Machine

@[simp] theorem ageQueue_frame (o : Observed) (s : State) :
    (ageQueue o s).pending = s.pending ∧ (ageQueue o s).slot = s.slot ∧ (ageQueue o s).work = s.work ∧
      (ageQueue o s).lines = s.lines ∧ (ageQueue o s).loader = s.loader ∧ (ageQueue o s).membership = s.membership ∧
      (ageQueue o s).mirror = s.mirror ∧ (ageQueue o s).table = s.table ∧ (ageQueue o s).dataUnit = s.dataUnit ∧
      (ageQueue o s).controller = s.controller ∧ (ageQueue o s).port = s.port ∧ (ageQueue o s).faults = s.faults ∧
      (ageQueue o s).counters = s.counters ∧ (ageQueue o s).memory = s.memory ∧ (ageQueue o s).settings = s.settings ∧
      (ageQueue o s).timing = s.timing ∧ (ageQueue o s).number = s.number := by
  unfold ageQueue; simp

@[simp] theorem markObserved_frame (o : Observed) (s : State) :
    (markObserved o s).pending = s.pending ∧ (markObserved o s).slot = s.slot ∧ (markObserved o s).lines = s.lines ∧
      (markObserved o s).loader = s.loader ∧ (markObserved o s).membership = s.membership ∧ (markObserved o s).mirror = s.mirror ∧
      (markObserved o s).queue = s.queue ∧ (markObserved o s).table = s.table ∧ (markObserved o s).dataUnit = s.dataUnit ∧
      (markObserved o s).controller = s.controller ∧ (markObserved o s).port = s.port ∧ (markObserved o s).faults = s.faults ∧
      (markObserved o s).counters = s.counters ∧ (markObserved o s).memory = s.memory ∧ (markObserved o s).settings = s.settings ∧
      (markObserved o s).timing = s.timing ∧ (markObserved o s).number = s.number := by
  unfold markObserved; dsimp only; (repeat' split) <;> simp

@[simp] theorem giveMemory_frame (o : Observed) (s : State) :
    (giveMemory o s).pending = s.pending ∧ (giveMemory o s).slot = s.slot ∧ (giveMemory o s).work = s.work ∧
      (giveMemory o s).lines = s.lines ∧ (giveMemory o s).loader = s.loader ∧ (giveMemory o s).membership = s.membership ∧
      (giveMemory o s).mirror = s.mirror ∧ (giveMemory o s).queue = s.queue ∧ (giveMemory o s).table = s.table ∧
      (giveMemory o s).dataUnit = s.dataUnit ∧ (giveMemory o s).controller = s.controller ∧ (giveMemory o s).port = s.port ∧
      (giveMemory o s).faults = s.faults ∧ (giveMemory o s).counters = s.counters ∧ (giveMemory o s).settings = s.settings ∧
      (giveMemory o s).timing = s.timing ∧ (giveMemory o s).number = s.number := by
  unfold giveMemory; simp

@[simp] theorem moveIssuers_frame (o : Observed) (s : State) :
    (moveIssuers o s).pending = s.pending ∧ (moveIssuers o s).slot = s.slot ∧ (moveIssuers o s).work = s.work ∧
      (moveIssuers o s).lines = s.lines ∧ (moveIssuers o s).loader = s.loader ∧ (moveIssuers o s).membership = s.membership ∧
      (moveIssuers o s).queue = s.queue ∧ (moveIssuers o s).table = s.table ∧ (moveIssuers o s).dataUnit = s.dataUnit ∧
      (moveIssuers o s).controller = s.controller ∧ (moveIssuers o s).port = s.port ∧ (moveIssuers o s).faults = s.faults ∧
      (moveIssuers o s).counters = s.counters ∧ (moveIssuers o s).memory = s.memory ∧ (moveIssuers o s).settings = s.settings ∧
      (moveIssuers o s).timing = s.timing ∧ (moveIssuers o s).number = s.number := by
  unfold moveIssuers; dsimp only; simp

@[simp] theorem noteAttribution_frame (i : StationNo) (check : CheckValue) (bank : BankNo) (column : ColumnNo) (bursts : BurstCount) (s : State) :
    (noteAttribution i check bank column bursts s).pending = s.pending ∧ (noteAttribution i check bank column bursts s).slot = s.slot ∧ (noteAttribution i check bank column bursts s).lines = s.lines ∧
      (noteAttribution i check bank column bursts s).loader = s.loader ∧ (noteAttribution i check bank column bursts s).membership = s.membership ∧ (noteAttribution i check bank column bursts s).mirror = s.mirror ∧
      (noteAttribution i check bank column bursts s).queue = s.queue ∧ (noteAttribution i check bank column bursts s).table = s.table ∧ (noteAttribution i check bank column bursts s).controller = s.controller ∧
      (noteAttribution i check bank column bursts s).port = s.port ∧ (noteAttribution i check bank column bursts s).faults = s.faults ∧ (noteAttribution i check bank column bursts s).counters = s.counters ∧
      (noteAttribution i check bank column bursts s).memory = s.memory ∧ (noteAttribution i check bank column bursts s).settings = s.settings ∧ (noteAttribution i check bank column bursts s).timing = s.timing ∧
      (noteAttribution i check bank column bursts s).number = s.number := by
  unfold noteAttribution; dsimp only; (repeat' split) <;> simp

@[simp] theorem noteWrite_frame (i : StationNo) (check : CheckValue) (bank : BankNo) (column : ColumnNo) (bursts : BurstCount) (s : State) :
    (noteWrite i check bank column bursts s).pending = s.pending ∧ (noteWrite i check bank column bursts s).slot = s.slot ∧ (noteWrite i check bank column bursts s).lines = s.lines ∧
      (noteWrite i check bank column bursts s).loader = s.loader ∧ (noteWrite i check bank column bursts s).membership = s.membership ∧ (noteWrite i check bank column bursts s).queue = s.queue ∧
      (noteWrite i check bank column bursts s).controller = s.controller ∧ (noteWrite i check bank column bursts s).port = s.port ∧ (noteWrite i check bank column bursts s).faults = s.faults ∧
      (noteWrite i check bank column bursts s).counters = s.counters ∧ (noteWrite i check bank column bursts s).memory = s.memory ∧ (noteWrite i check bank column bursts s).settings = s.settings ∧
      (noteWrite i check bank column bursts s).timing = s.timing ∧ (noteWrite i check bank column bursts s).number = s.number := by
  unfold noteWrite; dsimp only; (repeat' split) <;> simp

@[simp] theorem noteCommand_frame (i : StationNo) (c : LaneCommand) (s : State) :
    (noteCommand i c s).pending = s.pending ∧ (noteCommand i c s).slot = s.slot ∧ (noteCommand i c s).lines = s.lines ∧
      (noteCommand i c s).loader = s.loader ∧ (noteCommand i c s).membership = s.membership ∧ (noteCommand i c s).queue = s.queue ∧
      (noteCommand i c s).controller = s.controller ∧ (noteCommand i c s).port = s.port ∧ (noteCommand i c s).faults = s.faults ∧
      (noteCommand i c s).counters = s.counters ∧ (noteCommand i c s).memory = s.memory ∧ (noteCommand i c s).settings = s.settings ∧
      (noteCommand i c s).timing = s.timing ∧ (noteCommand i c s).number = s.number := by
  unfold noteCommand; (repeat' split) <;> simp

@[simp] theorem applyMirror_frame (c : LaneCommand) (s : State) :
    (applyMirror c s).pending = s.pending ∧ (applyMirror c s).slot = s.slot ∧ (applyMirror c s).work = s.work ∧
      (applyMirror c s).lines = s.lines ∧ (applyMirror c s).loader = s.loader ∧ (applyMirror c s).membership = s.membership ∧
      (applyMirror c s).queue = s.queue ∧ (applyMirror c s).table = s.table ∧ (applyMirror c s).dataUnit = s.dataUnit ∧
      (applyMirror c s).controller = s.controller ∧ (applyMirror c s).port = s.port ∧ (applyMirror c s).faults = s.faults ∧
      (applyMirror c s).counters = s.counters ∧ (applyMirror c s).memory = s.memory ∧ (applyMirror c s).settings = s.settings ∧
      (applyMirror c s).timing = s.timing ∧ (applyMirror c s).number = s.number := by
  unfold applyMirror; dsimp only; simp

@[simp] theorem makeKnown_frame (c : LaneCommand) (s : State) :
    (makeKnown c s).pending = s.pending ∧ (makeKnown c s).slot = s.slot ∧ (makeKnown c s).work = s.work ∧
      (makeKnown c s).lines = s.lines ∧ (makeKnown c s).loader = s.loader ∧ (makeKnown c s).membership = s.membership ∧
      (makeKnown c s).queue = s.queue ∧ (makeKnown c s).table = s.table ∧ (makeKnown c s).dataUnit = s.dataUnit ∧
      (makeKnown c s).controller = s.controller ∧ (makeKnown c s).port = s.port ∧ (makeKnown c s).faults = s.faults ∧
      (makeKnown c s).counters = s.counters ∧ (makeKnown c s).memory = s.memory ∧ (makeKnown c s).settings = s.settings ∧
      (makeKnown c s).timing = s.timing ∧ (makeKnown c s).number = s.number := by
  unfold makeKnown; dsimp only; (repeat' split) <;> simp

@[simp] theorem listenSync_frame (i : StationNo) (c : LaneCommand) (d : Digest) (s : State) :
    (listenSync i c d s).pending = s.pending ∧ (listenSync i c d s).slot = s.slot ∧ (listenSync i c d s).lines = s.lines ∧
      (listenSync i c d s).loader = s.loader ∧ (listenSync i c d s).memory = s.memory ∧ (listenSync i c d s).settings = s.settings ∧
      (listenSync i c d s).timing = s.timing ∧ (listenSync i c d s).number = s.number := by
  unfold listenSync; dsimp only; (repeat' split) <;> simp

@[simp] theorem listenCommand_frame (i : StationNo) (fault : Bool) (c : LaneCommand) (s : State) :
    (listenCommand i fault c s).pending = s.pending ∧ (listenCommand i fault c s).slot = s.slot ∧ (listenCommand i fault c s).lines = s.lines ∧
      (listenCommand i fault c s).loader = s.loader ∧ (listenCommand i fault c s).memory = s.memory ∧ (listenCommand i fault c s).settings = s.settings ∧
      (listenCommand i fault c s).timing = s.timing ∧ (listenCommand i fault c s).number = s.number := by
  unfold listenCommand; dsimp only; (repeat' split) <;> simp

@[simp] theorem advanceInit_frame (c : LaneCommand) (s : State) :
    (advanceInit c s).pending = s.pending ∧ (advanceInit c s).slot = s.slot ∧ (advanceInit c s).lines = s.lines ∧
      (advanceInit c s).loader = s.loader ∧ (advanceInit c s).mirror = s.mirror ∧ (advanceInit c s).queue = s.queue ∧
      (advanceInit c s).table = s.table ∧ (advanceInit c s).dataUnit = s.dataUnit ∧ (advanceInit c s).port = s.port ∧
      (advanceInit c s).faults = s.faults ∧ (advanceInit c s).counters = s.counters ∧ (advanceInit c s).memory = s.memory ∧
      (advanceInit c s).settings = s.settings ∧ (advanceInit c s).timing = s.timing ∧ (advanceInit c s).number = s.number := by
  unfold advanceInit; dsimp only; (repeat' split) <;> simp

@[simp] theorem initializeCommand_frame (i : StationNo) (c : LaneCommand) (s : State) :
    (initializeCommand i c s).pending = s.pending ∧ (initializeCommand i c s).slot = s.slot ∧ (initializeCommand i c s).lines = s.lines ∧
      (initializeCommand i c s).loader = s.loader ∧ (initializeCommand i c s).queue = s.queue ∧ (initializeCommand i c s).port = s.port ∧
      (initializeCommand i c s).counters = s.counters ∧ (initializeCommand i c s).memory = s.memory ∧ (initializeCommand i c s).settings = s.settings ∧
      (initializeCommand i c s).timing = s.timing ∧ (initializeCommand i c s).number = s.number := by
  unfold initializeCommand; (repeat' split) <;> simp

@[simp] theorem endDoubt_frame (c : LaneCommand) (s : State) :
    (endDoubt c s).pending = s.pending ∧ (endDoubt c s).slot = s.slot ∧ (endDoubt c s).lines = s.lines ∧
      (endDoubt c s).loader = s.loader ∧ (endDoubt c s).queue = s.queue ∧ (endDoubt c s).table = s.table ∧
      (endDoubt c s).dataUnit = s.dataUnit ∧ (endDoubt c s).port = s.port ∧ (endDoubt c s).faults = s.faults ∧
      (endDoubt c s).counters = s.counters ∧ (endDoubt c s).memory = s.memory ∧ (endDoubt c s).settings = s.settings ∧
      (endDoubt c s).timing = s.timing ∧ (endDoubt c s).number = s.number := by
  unfold endDoubt; dsimp only; (repeat' split) <;> simp

@[simp] theorem stationCommand_frame (i : StationNo) (fault : Bool) (c : LaneCommand) (s : State) :
    (stationCommand i fault c s).pending = s.pending ∧ (stationCommand i fault c s).slot = s.slot ∧ (stationCommand i fault c s).lines = s.lines ∧
      (stationCommand i fault c s).loader = s.loader ∧ (stationCommand i fault c s).memory = s.memory ∧ (stationCommand i fault c s).settings = s.settings ∧
      (stationCommand i fault c s).timing = s.timing ∧ (stationCommand i fault c s).number = s.number := by
  unfold stationCommand; dsimp only; (repeat' split) <;> simp

@[simp] theorem takeCommand_frame (i : StationNo) (c : LaneCommand) (s : State) :
    (takeCommand i c s).pending = s.pending ∧ (takeCommand i c s).slot = s.slot ∧ (takeCommand i c s).lines = s.lines ∧
      (takeCommand i c s).loader = s.loader ∧ (takeCommand i c s).memory = s.memory ∧ (takeCommand i c s).settings = s.settings ∧
      (takeCommand i c s).timing = s.timing ∧ (takeCommand i c s).number = s.number := by
  unfold takeCommand; dsimp only; simp

@[simp] theorem takeUndefined_frame (i : StationNo) (s : State) :
    (takeUndefined i s).pending = s.pending ∧ (takeUndefined i s).slot = s.slot ∧ (takeUndefined i s).lines = s.lines ∧
      (takeUndefined i s).loader = s.loader ∧ (takeUndefined i s).queue = s.queue ∧ (takeUndefined i s).port = s.port ∧
      (takeUndefined i s).counters = s.counters ∧ (takeUndefined i s).memory = s.memory ∧ (takeUndefined i s).settings = s.settings ∧
      (takeUndefined i s).timing = s.timing ∧ (takeUndefined i s).number = s.number := by
  unfold takeUndefined; dsimp only; (repeat' split) <;> simp

@[simp] theorem takeEmpty_frame (s : State) :
    (takeEmpty s).pending = s.pending ∧ (takeEmpty s).slot = s.slot ∧ (takeEmpty s).work = s.work ∧
      (takeEmpty s).lines = s.lines ∧ (takeEmpty s).loader = s.loader ∧ (takeEmpty s).mirror = s.mirror ∧
      (takeEmpty s).queue = s.queue ∧ (takeEmpty s).table = s.table ∧ (takeEmpty s).dataUnit = s.dataUnit ∧
      (takeEmpty s).controller = s.controller ∧ (takeEmpty s).port = s.port ∧ (takeEmpty s).faults = s.faults ∧
      (takeEmpty s).counters = s.counters ∧ (takeEmpty s).memory = s.memory ∧ (takeEmpty s).settings = s.settings ∧
      (takeEmpty s).timing = s.timing ∧ (takeEmpty s).number = s.number := by
  unfold takeEmpty; dsimp only; (repeat' split) <;> simp

@[simp] theorem takeObserved_frame (o : Observed) (s : State) :
    (takeObserved o s).pending = s.pending ∧ (takeObserved o s).slot = s.slot ∧ (takeObserved o s).lines = s.lines ∧
      (takeObserved o s).loader = s.loader ∧ (takeObserved o s).memory = s.memory ∧ (takeObserved o s).settings = s.settings ∧
      (takeObserved o s).timing = s.timing ∧ (takeObserved o s).number = s.number := by
  unfold takeObserved; (repeat' split) <;> simp

@[simp] theorem observe_frame (o : Observed) (s : State) :
    (observe o s).pending = s.pending ∧ (observe o s).slot = s.slot ∧ (observe o s).lines = s.lines ∧
      (observe o s).loader = s.loader ∧ (observe o s).settings = s.settings ∧ (observe o s).timing = s.timing ∧
      (observe o s).number = s.number := by
  unfold observe; dsimp only; (repeat' split) <;> simp

@[simp] theorem setRoster_frame (roster : StationSet) (s : State) :
    (setRoster roster s).pending = s.pending ∧ (setRoster roster s).slot = s.slot ∧ (setRoster roster s).work = s.work ∧
      (setRoster roster s).lines = s.lines ∧ (setRoster roster s).loader = s.loader ∧ (setRoster roster s).mirror = s.mirror ∧
      (setRoster roster s).queue = s.queue ∧ (setRoster roster s).table = s.table ∧ (setRoster roster s).dataUnit = s.dataUnit ∧
      (setRoster roster s).controller = s.controller ∧ (setRoster roster s).port = s.port ∧ (setRoster roster s).faults = s.faults ∧
      (setRoster roster s).counters = s.counters ∧ (setRoster roster s).memory = s.memory ∧ (setRoster roster s).settings = s.settings ∧
      (setRoster roster s).timing = s.timing ∧ (setRoster roster s).number = s.number := by
  unfold setRoster; dsimp only; simp

@[simp] theorem settleDuty_frame (s : State) :
    (settleDuty s).pending = s.pending ∧ (settleDuty s).slot = s.slot ∧ (settleDuty s).work = s.work ∧
      (settleDuty s).lines = s.lines ∧ (settleDuty s).loader = s.loader ∧ (settleDuty s).membership = s.membership ∧
      (settleDuty s).mirror = s.mirror ∧ (settleDuty s).queue = s.queue ∧ (settleDuty s).table = s.table ∧
      (settleDuty s).dataUnit = s.dataUnit ∧ (settleDuty s).port = s.port ∧ (settleDuty s).faults = s.faults ∧
      (settleDuty s).counters = s.counters ∧ (settleDuty s).memory = s.memory ∧ (settleDuty s).settings = s.settings ∧
      (settleDuty s).timing = s.timing ∧ (settleDuty s).number = s.number := by
  unfold settleDuty; (repeat' split) <;> simp

@[simp] theorem takeRise_frame (n : StationNo) (s : State) :
    (takeRise n s).pending = s.pending ∧ (takeRise n s).slot = s.slot ∧ (takeRise n s).work = s.work ∧
      (takeRise n s).lines = s.lines ∧ (takeRise n s).loader = s.loader ∧ (takeRise n s).mirror = s.mirror ∧
      (takeRise n s).queue = s.queue ∧ (takeRise n s).table = s.table ∧ (takeRise n s).dataUnit = s.dataUnit ∧
      (takeRise n s).port = s.port ∧ (takeRise n s).faults = s.faults ∧ (takeRise n s).counters = s.counters ∧
      (takeRise n s).memory = s.memory ∧ (takeRise n s).settings = s.settings ∧ (takeRise n s).timing = s.timing ∧
      (takeRise n s).number = s.number := by
  unfold takeRise; simp

@[simp] theorem dutyFall_frame (n : StationNo) (s : State) :
    (dutyFall n s).pending = s.pending ∧ (dutyFall n s).slot = s.slot ∧ (dutyFall n s).lines = s.lines ∧
      (dutyFall n s).loader = s.loader ∧ (dutyFall n s).membership = s.membership ∧ (dutyFall n s).mirror = s.mirror ∧
      (dutyFall n s).queue = s.queue ∧ (dutyFall n s).table = s.table ∧ (dutyFall n s).dataUnit = s.dataUnit ∧
      (dutyFall n s).port = s.port ∧ (dutyFall n s).faults = s.faults ∧ (dutyFall n s).counters = s.counters ∧
      (dutyFall n s).memory = s.memory ∧ (dutyFall n s).settings = s.settings ∧ (dutyFall n s).timing = s.timing ∧
      (dutyFall n s).number = s.number := by
  unfold dutyFall; (repeat' split) <;> simp

@[simp] theorem fenceFall_frame (n : StationNo) (s : State) :
    (fenceFall n s).pending = s.pending ∧ (fenceFall n s).slot = s.slot ∧ (fenceFall n s).work = s.work ∧
      (fenceFall n s).lines = s.lines ∧ (fenceFall n s).loader = s.loader ∧ (fenceFall n s).membership = s.membership ∧
      (fenceFall n s).queue = s.queue ∧ (fenceFall n s).table = s.table ∧ (fenceFall n s).controller = s.controller ∧
      (fenceFall n s).port = s.port ∧ (fenceFall n s).counters = s.counters ∧ (fenceFall n s).memory = s.memory ∧
      (fenceFall n s).settings = s.settings ∧ (fenceFall n s).timing = s.timing ∧ (fenceFall n s).number = s.number := by
  unfold fenceFall; (repeat' split) <;> simp

@[simp] theorem alertedFall_frame (n : StationNo) (s : State) :
    (alertedFall n s).pending = s.pending ∧ (alertedFall n s).slot = s.slot ∧ (alertedFall n s).work = s.work ∧
      (alertedFall n s).lines = s.lines ∧ (alertedFall n s).loader = s.loader ∧ (alertedFall n s).membership = s.membership ∧
      (alertedFall n s).mirror = s.mirror ∧ (alertedFall n s).queue = s.queue ∧ (alertedFall n s).table = s.table ∧
      (alertedFall n s).controller = s.controller ∧ (alertedFall n s).port = s.port ∧ (alertedFall n s).faults = s.faults ∧
      (alertedFall n s).counters = s.counters ∧ (alertedFall n s).memory = s.memory ∧ (alertedFall n s).settings = s.settings ∧
      (alertedFall n s).timing = s.timing ∧ (alertedFall n s).number = s.number := by
  unfold alertedFall; dsimp only; (repeat' split) <;> simp

@[simp] theorem takeFall_frame (n : StationNo) (s : State) :
    (takeFall n s).pending = s.pending ∧ (takeFall n s).slot = s.slot ∧ (takeFall n s).lines = s.lines ∧
      (takeFall n s).loader = s.loader ∧ (takeFall n s).queue = s.queue ∧ (takeFall n s).table = s.table ∧
      (takeFall n s).port = s.port ∧ (takeFall n s).counters = s.counters ∧ (takeFall n s).memory = s.memory ∧
      (takeFall n s).settings = s.settings ∧ (takeFall n s).timing = s.timing ∧ (takeFall n s).number = s.number := by
  unfold takeFall; dsimp only; simp

@[simp] theorem readyHigh_frame (s : State) :
    (readyHigh s).pending = s.pending ∧ (readyHigh s).slot = s.slot ∧ (readyHigh s).lines = s.lines ∧
      (readyHigh s).loader = s.loader ∧ (readyHigh s).queue = s.queue ∧ (readyHigh s).port = s.port ∧
      (readyHigh s).counters = s.counters ∧ (readyHigh s).memory = s.memory ∧ (readyHigh s).settings = s.settings ∧
      (readyHigh s).timing = s.timing ∧ (readyHigh s).number = s.number := by
  unfold readyHigh; (repeat' split) <;> simp

@[simp] theorem takeReady_frame (high : Bool) (s : State) :
    (takeReady high s).pending = s.pending ∧ (takeReady high s).slot = s.slot ∧ (takeReady high s).loader = s.loader ∧
      (takeReady high s).queue = s.queue ∧ (takeReady high s).port = s.port ∧ (takeReady high s).counters = s.counters ∧
      (takeReady high s).memory = s.memory ∧ (takeReady high s).settings = s.settings ∧ (takeReady high s).timing = s.timing ∧
      (takeReady high s).number = s.number := by
  unfold takeReady; dsimp only; (repeat' split) <;> simp

@[simp] theorem takeQuiet_frame (high : Bool) (s : State) :
    (takeQuiet high s).pending = s.pending ∧ (takeQuiet high s).slot = s.slot ∧ (takeQuiet high s).work = s.work ∧
      (takeQuiet high s).loader = s.loader ∧ (takeQuiet high s).membership = s.membership ∧ (takeQuiet high s).queue = s.queue ∧
      (takeQuiet high s).table = s.table ∧ (takeQuiet high s).dataUnit = s.dataUnit ∧ (takeQuiet high s).controller = s.controller ∧
      (takeQuiet high s).port = s.port ∧ (takeQuiet high s).faults = s.faults ∧ (takeQuiet high s).counters = s.counters ∧
      (takeQuiet high s).memory = s.memory ∧ (takeQuiet high s).settings = s.settings ∧ (takeQuiet high s).timing = s.timing ∧
      (takeQuiet high s).number = s.number := by
  unfold takeQuiet; dsimp only; simp

@[simp] theorem joinResponses_frame (s : State) :
    (joinResponses s).pending = s.pending ∧ (joinResponses s).slot = s.slot ∧ (joinResponses s).work = s.work ∧
      (joinResponses s).lines = s.lines ∧ (joinResponses s).loader = s.loader ∧ (joinResponses s).membership = s.membership ∧
      (joinResponses s).mirror = s.mirror ∧ (joinResponses s).queue = s.queue ∧ (joinResponses s).table = s.table ∧
      (joinResponses s).dataUnit = s.dataUnit ∧ (joinResponses s).controller = s.controller ∧ (joinResponses s).faults = s.faults ∧
      (joinResponses s).counters = s.counters ∧ (joinResponses s).memory = s.memory ∧ (joinResponses s).settings = s.settings ∧
      (joinResponses s).timing = s.timing ∧ (joinResponses s).number = s.number := by
  unfold joinResponses; dsimp only; simp

@[simp] theorem defaultSamples_frame (s : State) :
    (defaultSamples s).pending = s.pending ∧ (defaultSamples s).slot = s.slot ∧ (defaultSamples s).loader = s.loader ∧
      (defaultSamples s).queue = s.queue ∧ (defaultSamples s).port = s.port ∧ (defaultSamples s).counters = s.counters ∧
      (defaultSamples s).memory = s.memory ∧ (defaultSamples s).settings = s.settings ∧ (defaultSamples s).timing = s.timing ∧
      (defaultSamples s).number = s.number := by
  unfold defaultSamples; dsimp only; (repeat' split) <;> simp

@[simp] theorem defaultCommandAlert_frame (s : State) :
    (defaultCommandAlert s).pending = s.pending ∧ (defaultCommandAlert s).slot = s.slot ∧ (defaultCommandAlert s).lines = s.lines ∧
      (defaultCommandAlert s).loader = s.loader ∧ (defaultCommandAlert s).memory = s.memory ∧ (defaultCommandAlert s).settings = s.settings ∧
      (defaultCommandAlert s).timing = s.timing ∧ (defaultCommandAlert s).number = s.number := by
  unfold defaultCommandAlert; (repeat' split) <;> simp

@[simp] theorem defaultWriteAlert_frame (s : State) :
    (defaultWriteAlert s).pending = s.pending ∧ (defaultWriteAlert s).slot = s.slot ∧ (defaultWriteAlert s).lines = s.lines ∧
      (defaultWriteAlert s).loader = s.loader ∧ (defaultWriteAlert s).membership = s.membership ∧ (defaultWriteAlert s).mirror = s.mirror ∧
      (defaultWriteAlert s).table = s.table ∧ (defaultWriteAlert s).memory = s.memory ∧ (defaultWriteAlert s).settings = s.settings ∧
      (defaultWriteAlert s).timing = s.timing ∧ (defaultWriteAlert s).number = s.number := by
  unfold defaultWriteAlert; (repeat' split) <;> simp

@[simp] theorem defaultObserve_frame (s : State) :
    (defaultObserve s).pending = s.pending ∧ (defaultObserve s).slot = s.slot ∧ (defaultObserve s).lines = s.lines ∧
      (defaultObserve s).loader = s.loader ∧ (defaultObserve s).settings = s.settings ∧ (defaultObserve s).timing = s.timing ∧
      (defaultObserve s).number = s.number := by
  unfold defaultObserve; (repeat' split) <;> simp

@[simp] theorem defaultCapture_frame (s : State) :
    (defaultCapture s).pending = s.pending ∧ (defaultCapture s).slot = s.slot ∧ (defaultCapture s).lines = s.lines ∧
      (defaultCapture s).loader = s.loader ∧ (defaultCapture s).membership = s.membership ∧ (defaultCapture s).mirror = s.mirror ∧
      (defaultCapture s).dataUnit = s.dataUnit ∧ (defaultCapture s).memory = s.memory ∧ (defaultCapture s).settings = s.settings ∧
      (defaultCapture s).timing = s.timing ∧ (defaultCapture s).number = s.number := by
  unfold defaultCapture; dsimp only; (repeat' split) <;> simp

@[simp] theorem defaultWindows_frame (s : State) :
    (defaultWindows s).pending = s.pending ∧ (defaultWindows s).slot = s.slot ∧ (defaultWindows s).work = s.work ∧
      (defaultWindows s).lines = s.lines ∧ (defaultWindows s).loader = s.loader ∧ (defaultWindows s).membership = s.membership ∧
      (defaultWindows s).mirror = s.mirror ∧ (defaultWindows s).table = s.table ∧ (defaultWindows s).dataUnit = s.dataUnit ∧
      (defaultWindows s).controller = s.controller ∧ (defaultWindows s).port = s.port ∧ (defaultWindows s).faults = s.faults ∧
      (defaultWindows s).counters = s.counters ∧ (defaultWindows s).memory = s.memory ∧ (defaultWindows s).settings = s.settings ∧
      (defaultWindows s).timing = s.timing ∧ (defaultWindows s).number = s.number := by
  unfold defaultWindows; (repeat' split) <;> simp

@[simp] theorem defaultState_frame (s : State) :
    (defaultState s).pending = s.pending ∧ (defaultState s).slot = s.slot ∧ (defaultState s).lines = s.lines ∧
      (defaultState s).loader = s.loader ∧ (defaultState s).queue = s.queue ∧ (defaultState s).port = s.port ∧
      (defaultState s).counters = s.counters ∧ (defaultState s).memory = s.memory ∧ (defaultState s).settings = s.settings ∧
      (defaultState s).timing = s.timing ∧ (defaultState s).number = s.number := by
  unfold defaultState; dsimp only; (repeat' split) <;> simp

@[simp] theorem acceptRecord_frame (r : Record) (s : State) :
    (acceptRecord r s).pending = s.pending ∧ (acceptRecord r s).slot = s.slot ∧ (acceptRecord r s).lines = s.lines ∧
      (acceptRecord r s).queue = s.queue ∧ (acceptRecord r s).port = s.port ∧ (acceptRecord r s).counters = s.counters ∧
      (acceptRecord r s).memory = s.memory := by
  unfold acceptRecord; dsimp only; simp

@[simp] theorem completeRead_frame (r : Record) (s : State) :
    (completeRead r s).pending = s.pending ∧ (completeRead r s).slot = s.slot ∧ (completeRead r s).lines = s.lines ∧
      (completeRead r s).queue = s.queue ∧ (completeRead r s).port = s.port ∧ (completeRead r s).counters = s.counters ∧
      (completeRead r s).memory = s.memory := by
  unfold completeRead; dsimp only; (repeat' split) <;> simp

@[simp] theorem defaultRecord_frame (s : State) :
    (defaultRecord s).pending = s.pending ∧ (defaultRecord s).slot = s.slot ∧ (defaultRecord s).lines = s.lines ∧
      (defaultRecord s).queue = s.queue ∧ (defaultRecord s).port = s.port ∧ (defaultRecord s).counters = s.counters ∧
      (defaultRecord s).memory = s.memory := by
  unfold defaultRecord; (repeat' split) <;> simp

@[simp] theorem settleSlot_frame (s : State) :
    (settleSlot s).pending = s.pending ∧ (settleSlot s).slot = s.slot := by
  unfold settleSlot; dsimp only; simp

@[simp] theorem finishSlot_frame (s : State) :
    (finishSlot s).pending = s.pending ∧ (finishSlot s).slot = s.slot := by
  unfold finishSlot; simp

@[simp] theorem openSlot_frame (s : State) :
    (openSlot s).pending = s.pending ∧ (openSlot s).membership = s.membership ∧ (openSlot s).mirror = s.mirror ∧
      (openSlot s).table = s.table ∧ (openSlot s).controller = s.controller ∧ (openSlot s).counters = s.counters ∧
      (openSlot s).memory = s.memory := by
  unfold openSlot; dsimp only; simp

@[simp] theorem endSlot_frame (s : State) :
    (endSlot s).pending = s.pending := by
  unfold endSlot; dsimp only; (repeat' split) <;> simp

@[simp] theorem beforeOnce_frame (taken : Bool) (s : State) :
    (beforeOnce taken s).pending = s.pending := by
  unfold beforeOnce; (repeat' split) <;> simp

@[simp] theorem passSlots_frame (n : Nat) (s : State) :
    (passSlots n s).pending = s.pending := by
  induction n generalizing s with
  | zero => rfl
  | succ n ih => rw [passSlots, ih]; simp

end Sys2Proof.Machine
end

