-- ==== Sys2Proof/Laws/Steps.lean ====
section
/-! SUPPORT. The frames of the operations of the steps' own meanings: the blocks of the state that the
operation leaves as they are, whatever it does. -/

namespace Sys2Proof.Machine

@[simp] theorem releaseReset_frame (straps : StationNo) (presence : StationSet) (s : State) :
    (releaseReset straps presence s).pending = s.pending ∧ (releaseReset straps presence s).work = s.work ∧ (releaseReset straps presence s).lines = s.lines ∧
      (releaseReset straps presence s).mirror = s.mirror ∧ (releaseReset straps presence s).queue = s.queue ∧ (releaseReset straps presence s).table = s.table ∧
      (releaseReset straps presence s).dataUnit = s.dataUnit ∧ (releaseReset straps presence s).controller = s.controller ∧ (releaseReset straps presence s).port = s.port ∧
      (releaseReset straps presence s).faults = s.faults ∧ (releaseReset straps presence s).counters = s.counters ∧ (releaseReset straps presence s).memory = s.memory := by
  unfold releaseReset; dsimp only; simp

@[simp] theorem meetWord_frame (w : LaneBits) (o : Observed) (s : State) : (meetWord w o s).pending = s.pending := by
  unfold meetWord; (repeat' split) <;> simp

@[simp] theorem observeWord_frame (w : LaneBits) (o : Observed) (s : State) :
    (observeWord w o s).pending = s.pending := by
  unfold observeWord; simp

@[simp] theorem observeCommand_frame (i : StationNo) (c : LaneCommand) (s : State) :
    (observeCommand i c s).pending = s.pending := by
  unfold observeCommand; simp

@[simp] theorem usePosition_frame (s : State) :
    (usePosition s).pending = s.pending ∧ (usePosition s).slot = s.slot ∧ (usePosition s).lines = s.lines ∧
      (usePosition s).loader = s.loader ∧ (usePosition s).membership = s.membership ∧ (usePosition s).mirror = s.mirror ∧
      (usePosition s).queue = s.queue ∧ (usePosition s).table = s.table ∧ (usePosition s).dataUnit = s.dataUnit ∧
      (usePosition s).controller = s.controller ∧ (usePosition s).port = s.port ∧ (usePosition s).faults = s.faults ∧
      (usePosition s).counters = s.counters ∧ (usePosition s).memory = s.memory ∧ (usePosition s).settings = s.settings ∧
      (usePosition s).timing = s.timing ∧ (usePosition s).number = s.number := by
  unfold usePosition; dsimp only; simp

@[simp] theorem takeHeader_frame (s : State) :
    (takeHeader s).pending = s.pending ∧ (takeHeader s).slot = s.slot ∧ (takeHeader s).lines = s.lines ∧
      (takeHeader s).loader = s.loader ∧ (takeHeader s).membership = s.membership ∧ (takeHeader s).mirror = s.mirror ∧
      (takeHeader s).queue = s.queue ∧ (takeHeader s).table = s.table ∧ (takeHeader s).dataUnit = s.dataUnit ∧
      (takeHeader s).controller = s.controller ∧ (takeHeader s).faults = s.faults ∧ (takeHeader s).counters = s.counters ∧
      (takeHeader s).memory = s.memory ∧ (takeHeader s).settings = s.settings ∧ (takeHeader s).timing = s.timing ∧
      (takeHeader s).number = s.number := by
  unfold takeHeader; dsimp only; simp

@[simp] theorem respond_frame (r : Response) (s : State) :
    (respond r s).pending = s.pending ∧ (respond r s).slot = s.slot ∧ (respond r s).work = s.work ∧
      (respond r s).lines = s.lines ∧ (respond r s).loader = s.loader ∧ (respond r s).membership = s.membership ∧
      (respond r s).mirror = s.mirror ∧ (respond r s).queue = s.queue ∧ (respond r s).table = s.table ∧
      (respond r s).dataUnit = s.dataUnit ∧ (respond r s).controller = s.controller ∧ (respond r s).faults = s.faults ∧
      (respond r s).counters = s.counters ∧ (respond r s).memory = s.memory ∧ (respond r s).settings = s.settings ∧
      (respond r s).timing = s.timing ∧ (respond r s).number = s.number := by
  unfold respond; dsimp only; simp

@[simp] theorem refuseWith_frame (reason : RefusalReason) (kind : BitVec 4) (tag : Tag) (thread : Thread) (s : State) :
    (refuseWith reason kind tag thread s).pending = s.pending ∧ (refuseWith reason kind tag thread s).slot = s.slot ∧ (refuseWith reason kind tag thread s).work = s.work ∧
      (refuseWith reason kind tag thread s).lines = s.lines ∧ (refuseWith reason kind tag thread s).loader = s.loader ∧ (refuseWith reason kind tag thread s).membership = s.membership ∧
      (refuseWith reason kind tag thread s).mirror = s.mirror ∧ (refuseWith reason kind tag thread s).queue = s.queue ∧ (refuseWith reason kind tag thread s).table = s.table ∧
      (refuseWith reason kind tag thread s).dataUnit = s.dataUnit ∧ (refuseWith reason kind tag thread s).controller = s.controller ∧ (refuseWith reason kind tag thread s).faults = s.faults ∧
      (refuseWith reason kind tag thread s).counters = s.counters ∧ (refuseWith reason kind tag thread s).memory = s.memory ∧ (refuseWith reason kind tag thread s).settings = s.settings ∧
      (refuseWith reason kind tag thread s).timing = s.timing ∧ (refuseWith reason kind tag thread s).number = s.number := by
  unfold refuseWith; simp

@[simp] theorem answerOk_frame (kind : BitVec 4) (tag : Tag) (s : State) :
    (answerOk kind tag s).pending = s.pending ∧ (answerOk kind tag s).slot = s.slot ∧ (answerOk kind tag s).work = s.work ∧
      (answerOk kind tag s).lines = s.lines ∧ (answerOk kind tag s).loader = s.loader ∧ (answerOk kind tag s).membership = s.membership ∧
      (answerOk kind tag s).mirror = s.mirror ∧ (answerOk kind tag s).queue = s.queue ∧ (answerOk kind tag s).table = s.table ∧
      (answerOk kind tag s).dataUnit = s.dataUnit ∧ (answerOk kind tag s).controller = s.controller ∧ (answerOk kind tag s).faults = s.faults ∧
      (answerOk kind tag s).counters = s.counters ∧ (answerOk kind tag s).memory = s.memory ∧ (answerOk kind tag s).settings = s.settings ∧
      (answerOk kind tag s).timing = s.timing ∧ (answerOk kind tag s).number = s.number := by
  unfold answerOk; simp

@[simp] theorem joinQueue_frame (e : Entry) (s : State) :
    (joinQueue e s).pending = s.pending ∧ (joinQueue e s).slot = s.slot ∧ (joinQueue e s).work = s.work ∧
      (joinQueue e s).lines = s.lines ∧ (joinQueue e s).loader = s.loader ∧ (joinQueue e s).membership = s.membership ∧
      (joinQueue e s).mirror = s.mirror ∧ (joinQueue e s).table = s.table ∧ (joinQueue e s).dataUnit = s.dataUnit ∧
      (joinQueue e s).faults = s.faults ∧ (joinQueue e s).counters = s.counters ∧ (joinQueue e s).memory = s.memory ∧
      (joinQueue e s).settings = s.settings ∧ (joinQueue e s).timing = s.timing ∧ (joinQueue e s).number = s.number := by
  unfold joinQueue; dsimp only; simp

@[simp] theorem deliver_frame (kind : MemKind) (tag : Tag) (thread : Thread) (bursts : BurstCount) (urgent : Bool) (address : Address) (words : List PortWord) (s : State) :
    (deliver kind tag thread bursts urgent address words s).pending = s.pending ∧ (deliver kind tag thread bursts urgent address words s).slot = s.slot ∧ (deliver kind tag thread bursts urgent address words s).work = s.work ∧
      (deliver kind tag thread bursts urgent address words s).lines = s.lines ∧ (deliver kind tag thread bursts urgent address words s).loader = s.loader ∧ (deliver kind tag thread bursts urgent address words s).membership = s.membership ∧
      (deliver kind tag thread bursts urgent address words s).mirror = s.mirror ∧ (deliver kind tag thread bursts urgent address words s).table = s.table ∧ (deliver kind tag thread bursts urgent address words s).dataUnit = s.dataUnit ∧
      (deliver kind tag thread bursts urgent address words s).faults = s.faults ∧ (deliver kind tag thread bursts urgent address words s).counters = s.counters ∧ (deliver kind tag thread bursts urgent address words s).memory = s.memory ∧
      (deliver kind tag thread bursts urgent address words s).settings = s.settings ∧ (deliver kind tag thread bursts urgent address words s).timing = s.timing ∧ (deliver kind tag thread bursts urgent address words s).number = s.number := by
  unfold deliver; (repeat' split) <;> simp

@[simp] theorem deliverWrite_frame (p : PartialWrite) (s : State) :
    (deliverWrite p s).pending = s.pending ∧ (deliverWrite p s).slot = s.slot ∧ (deliverWrite p s).work = s.work ∧
      (deliverWrite p s).lines = s.lines ∧ (deliverWrite p s).loader = s.loader ∧ (deliverWrite p s).membership = s.membership ∧
      (deliverWrite p s).mirror = s.mirror ∧ (deliverWrite p s).table = s.table ∧ (deliverWrite p s).dataUnit = s.dataUnit ∧
      (deliverWrite p s).faults = s.faults ∧ (deliverWrite p s).counters = s.counters ∧ (deliverWrite p s).memory = s.memory ∧
      (deliverWrite p s).settings = s.settings ∧ (deliverWrite p s).timing = s.timing ∧ (deliverWrite p s).number = s.number := by
  unfold deliverWrite; dsimp only; (repeat' split) <;> simp

@[simp] theorem deliverFence_frame (tag : Tag) (s : State) :
    (deliverFence tag s).pending = s.pending ∧ (deliverFence tag s).slot = s.slot ∧ (deliverFence tag s).work = s.work ∧
      (deliverFence tag s).lines = s.lines ∧ (deliverFence tag s).loader = s.loader ∧ (deliverFence tag s).membership = s.membership ∧
      (deliverFence tag s).mirror = s.mirror ∧ (deliverFence tag s).table = s.table ∧ (deliverFence tag s).dataUnit = s.dataUnit ∧
      (deliverFence tag s).faults = s.faults ∧ (deliverFence tag s).counters = s.counters ∧ (deliverFence tag s).memory = s.memory ∧
      (deliverFence tag s).settings = s.settings ∧ (deliverFence tag s).timing = s.timing ∧ (deliverFence tag s).number = s.number := by
  unfold deliverFence; (repeat' split) <;> simp

@[simp] theorem takePermit_frame (tag : Tag) (value : Bool) (s : State) :
    (takePermit tag value s).pending = s.pending ∧ (takePermit tag value s).slot = s.slot ∧ (takePermit tag value s).work = s.work ∧
      (takePermit tag value s).lines = s.lines ∧ (takePermit tag value s).loader = s.loader ∧ (takePermit tag value s).membership = s.membership ∧
      (takePermit tag value s).mirror = s.mirror ∧ (takePermit tag value s).queue = s.queue ∧ (takePermit tag value s).table = s.table ∧
      (takePermit tag value s).dataUnit = s.dataUnit ∧ (takePermit tag value s).faults = s.faults ∧ (takePermit tag value s).counters = s.counters ∧
      (takePermit tag value s).memory = s.memory ∧ (takePermit tag value s).settings = s.settings ∧ (takePermit tag value s).timing = s.timing ∧
      (takePermit tag value s).number = s.number := by
  unfold takePermit; dsimp only; (repeat' split) <;> simp

@[simp] theorem enterLeaving_frame (s : State) :
    (enterLeaving s).pending = s.pending ∧ (enterLeaving s).slot = s.slot ∧ (enterLeaving s).work = s.work ∧
      (enterLeaving s).lines = s.lines ∧ (enterLeaving s).loader = s.loader ∧ (enterLeaving s).mirror = s.mirror ∧
      (enterLeaving s).queue = s.queue ∧ (enterLeaving s).table = s.table ∧ (enterLeaving s).dataUnit = s.dataUnit ∧
      (enterLeaving s).port = s.port ∧ (enterLeaving s).faults = s.faults ∧ (enterLeaving s).counters = s.counters ∧
      (enterLeaving s).memory = s.memory ∧ (enterLeaving s).settings = s.settings ∧ (enterLeaving s).timing = s.timing ∧
      (enterLeaving s).number = s.number := by
  unfold enterLeaving; simp

@[simp] theorem takeLeave_frame (tag : Tag) (s : State) :
    (takeLeave tag s).pending = s.pending ∧ (takeLeave tag s).slot = s.slot ∧ (takeLeave tag s).work = s.work ∧
      (takeLeave tag s).lines = s.lines ∧ (takeLeave tag s).loader = s.loader ∧ (takeLeave tag s).mirror = s.mirror ∧
      (takeLeave tag s).queue = s.queue ∧ (takeLeave tag s).table = s.table ∧ (takeLeave tag s).dataUnit = s.dataUnit ∧
      (takeLeave tag s).faults = s.faults ∧ (takeLeave tag s).counters = s.counters ∧ (takeLeave tag s).memory = s.memory ∧
      (takeLeave tag s).settings = s.settings ∧ (takeLeave tag s).timing = s.timing ∧ (takeLeave tag s).number = s.number := by
  unfold takeLeave; (repeat' split) <;> simp

@[simp] theorem takeJoin_frame (tag : Tag) (s : State) :
    (takeJoin tag s).pending = s.pending ∧ (takeJoin tag s).slot = s.slot ∧ (takeJoin tag s).lines = s.lines ∧
      (takeJoin tag s).loader = s.loader ∧ (takeJoin tag s).queue = s.queue ∧ (takeJoin tag s).counters = s.counters ∧
      (takeJoin tag s).memory = s.memory ∧ (takeJoin tag s).settings = s.settings ∧ (takeJoin tag s).timing = s.timing ∧
      (takeJoin tag s).number = s.number := by
  unfold takeJoin; (repeat' split) <;> simp

@[simp] theorem takeRestart_frame (tag : Tag) (s : State) :
    (takeRestart tag s).pending = s.pending ∧ (takeRestart tag s).slot = s.slot ∧ (takeRestart tag s).lines = s.lines ∧
      (takeRestart tag s).loader = s.loader ∧ (takeRestart tag s).memory = s.memory ∧ (takeRestart tag s).settings = s.settings ∧
      (takeRestart tag s).timing = s.timing ∧ (takeRestart tag s).number = s.number := by
  unfold takeRestart; dsimp only; (repeat' split) <;> simp

@[simp] theorem noteLines_frame (d : DataSlot) (s : State) :
    (noteLines d s).pending = s.pending ∧ (noteLines d s).slot = s.slot ∧ (noteLines d s).lines = s.lines ∧
      (noteLines d s).loader = s.loader ∧ (noteLines d s).membership = s.membership ∧ (noteLines d s).mirror = s.mirror ∧
      (noteLines d s).queue = s.queue ∧ (noteLines d s).table = s.table ∧ (noteLines d s).dataUnit = s.dataUnit ∧
      (noteLines d s).controller = s.controller ∧ (noteLines d s).port = s.port ∧ (noteLines d s).faults = s.faults ∧
      (noteLines d s).counters = s.counters ∧ (noteLines d s).memory = s.memory ∧ (noteLines d s).settings = s.settings ∧
      (noteLines d s).timing = s.timing ∧ (noteLines d s).number = s.number := by
  unfold noteLines; simp

@[simp] theorem takeLines_frame (d : DataSlot) (s : State) :
    (takeLines d s).pending = s.pending ∧ (takeLines d s).slot = s.slot ∧ (takeLines d s).lines = s.lines ∧
      (takeLines d s).loader = s.loader ∧ (takeLines d s).membership = s.membership ∧ (takeLines d s).memory = s.memory ∧
      (takeLines d s).settings = s.settings ∧ (takeLines d s).timing = s.timing ∧ (takeLines d s).number = s.number := by
  unfold takeLines; (repeat' split) <;> simp

@[simp] theorem takeWord_frame (word : PortWord) (s : State) :
    (takeWord word s).pending = s.pending ∧ (takeWord word s).slot = s.slot ∧ (takeWord word s).work = s.work ∧
      (takeWord word s).lines = s.lines ∧ (takeWord word s).loader = s.loader ∧ (takeWord word s).membership = s.membership ∧
      (takeWord word s).mirror = s.mirror ∧ (takeWord word s).table = s.table ∧ (takeWord word s).dataUnit = s.dataUnit ∧
      (takeWord word s).faults = s.faults ∧ (takeWord word s).counters = s.counters ∧ (takeWord word s).memory = s.memory ∧
      (takeWord word s).settings = s.settings ∧ (takeWord word s).timing = s.timing ∧ (takeWord word s).number = s.number := by
  unfold takeWord; (repeat' split) <;> simp

@[simp] theorem takeData_frame (word : PortWord) (s : State) :
    (takeData word s).pending = s.pending ∧ (takeData word s).slot = s.slot ∧ (takeData word s).lines = s.lines ∧
      (takeData word s).loader = s.loader ∧ (takeData word s).membership = s.membership ∧ (takeData word s).memory = s.memory ∧
      (takeData word s).settings = s.settings ∧ (takeData word s).timing = s.timing ∧ (takeData word s).number = s.number := by
  unfold takeData; (repeat' split) <;> simp

@[simp] theorem takeWords_frame (words : List PortWord) (s : State) :
    (takeWords words s).pending = s.pending := by
  induction words generalizing s with
  | nil => rfl
  | cons w rest ih => rw [takeWords, ih]; simp

@[simp] theorem sendWords_frame (s : State) :
    (sendWords s).pending = s.pending ∧ (sendWords s).slot = s.slot ∧ (sendWords s).lines = s.lines ∧
      (sendWords s).loader = s.loader ∧ (sendWords s).membership = s.membership ∧ (sendWords s).mirror = s.mirror ∧
      (sendWords s).queue = s.queue ∧ (sendWords s).table = s.table ∧ (sendWords s).dataUnit = s.dataUnit ∧
      (sendWords s).controller = s.controller ∧ (sendWords s).faults = s.faults ∧ (sendWords s).counters = s.counters ∧
      (sendWords s).memory = s.memory ∧ (sendWords s).settings = s.settings ∧ (sendWords s).timing = s.timing ∧
      (sendWords s).number = s.number := by
  unfold sendWords; dsimp only; (repeat' split) <;> simp

end Sys2Proof.Machine
end

