-- ==== Sys2Proof/Laws/Account.lean ====
section
/-! SUPPORT. No event of a slot forgets that the account has started in it, so that the slot's end decides whether its timer
counts (R145). -/

namespace Sys2Proof.Machine

@[simp] theorem expirePeriod_started (s : State) (h : s.work.accountStarted = true) :
    (expirePeriod s).work.accountStarted = true := by
  unfold expirePeriod; (repeat' split) <;> simp [h]

@[simp] theorem countPeriod_started (s : State) (h : s.work.accountStarted = true) :
    (countPeriod s).work.accountStarted = true := by
  unfold countPeriod; (repeat' split) <;> simp [h]

@[simp] theorem startAccount_started (s : State) : (startAccount s).work.accountStarted = true := by
  unfold startAccount; simp

@[simp] theorem stopAccount_started (s : State) (h : s.work.accountStarted = true) :
    (stopAccount s).work.accountStarted = true := by
  unfold stopAccount; (repeat' split) <;> simp [h]

@[simp] theorem accountCommand_started (c : LaneCommand) (s : State) (h : s.work.accountStarted = true) :
    (accountCommand c s).work.accountStarted = true := by
  unfold accountCommand; (repeat' split) <;> simp [h]

@[simp] theorem countIdle_started (s : State) (h : s.work.accountStarted = true) :
    (countIdle s).work.accountStarted = true := by
  unfold countIdle; (repeat' split) <;> simp [h]

@[simp] theorem restartIdle_started (s : State) (h : s.work.accountStarted = true) :
    (restartIdle s).work.accountStarted = true := by
  unfold restartIdle; (repeat' split) <;> simp [h]

@[simp] theorem retireDone_started (closing : Bool) (s : State) (h : s.work.accountStarted = true) :
    (retireDone closing s).work.accountStarted = true := by
  unfold retireDone; dsimp only; (repeat' split) <;> simp [h]

@[simp] theorem leaveChannel_started (st : StationState) (s : State) (h : s.work.accountStarted = true) :
    (leaveChannel st s).work.accountStarted = true := by
  unfold leaveChannel; simp [h]

@[simp] theorem enterListening_started (s : State) (h : s.work.accountStarted = true) :
    (enterListening s).work.accountStarted = true := by
  unfold enterListening; simp [h]

@[simp] theorem enterWithdrawn_started (s : State) (h : s.work.accountStarted = true) :
    (enterWithdrawn s).work.accountStarted = true := by
  unfold enterWithdrawn; simp [h]

@[simp] theorem enterDetached_started (s : State) (h : s.work.accountStarted = true) :
    (enterDetached s).work.accountStarted = true := by
  unfold enterDetached; simp [h]

@[simp] theorem enterMember_started (s : State) : (enterMember s).work.accountStarted = true := by
  unfold enterMember; simp

@[simp] theorem returnMember_started (s : State) (h : s.work.accountStarted = true) :
    (returnMember s).work.accountStarted = true := by
  unfold returnMember; simp [h]

@[simp] theorem loseTrust_started (s : State) (h : s.work.accountStarted = true) :
    (loseTrust s).work.accountStarted = true := by
  unfold loseTrust; (repeat' split) <;> simp [h]

@[simp] theorem enterResync_started (s : State) (h : s.work.accountStarted = true) :
    (enterResync s).work.accountStarted = true := by
  unfold enterResync; simp [h]

@[simp] theorem setLeaveDoubt_started (s : State) (h : s.work.accountStarted = true) :
    (setLeaveDoubt s).work.accountStarted = true := by
  unfold setLeaveDoubt; simp [h]

@[simp] theorem takeDoubt_started (s : State) (h : s.work.accountStarted = true) :
    (takeDoubt s).work.accountStarted = true := by
  unfold takeDoubt; (repeat' split) <;> simp [h]

@[simp] theorem enterDraining_started (target : DrainTarget) (s : State) (h : s.work.accountStarted = true) :
    (enterDraining target s).work.accountStarted = true := by
  unfold enterDraining; simp [h]

@[simp] theorem withdrawByDrain_started (s : State) (h : s.work.accountStarted = true) :
    (withdrawByDrain s).work.accountStarted = true := by
  unfold withdrawByDrain; (repeat' split) <;> simp [h]

@[simp] theorem checkNumber_started (s : State) (h : s.work.accountStarted = true) :
    (checkNumber s).work.accountStarted = true := by
  unfold checkNumber; (repeat' split) <;> simp [h]

@[simp] theorem badRecord_started (detail : Nat) (s : State) (h : s.work.accountStarted = true) :
    (badRecord detail s).work.accountStarted = true := by
  unfold badRecord; simp [h]

@[simp] theorem recheckRecord_started (s : State) (h : s.work.accountStarted = true) :
    (recheckRecord s).work.accountStarted = true := by
  unfold recheckRecord; dsimp only; (repeat' split) <;> simp [h]

@[simp] theorem endDrain_started (s : State) (h : s.work.accountStarted = true) : (endDrain s).work.accountStarted = true := by
  unfold endDrain; (repeat' split) <;> simp [h]

@[simp] theorem captureBurst_started (data : BurstData) (check : Byte) (s : State) (h : s.work.accountStarted = true) :
    (captureBurst data check s).work.accountStarted = true := by
  unfold captureBurst; (repeat' split) <;> simp [h]

@[simp] theorem expireWindows_started (s : State) (h : s.work.accountStarted = true) :
    (expireWindows s).work.accountStarted = true := by
  unfold expireWindows; simp [h]

@[simp] theorem takeCommandAlert_started (s : State) (h : s.work.accountStarted = true) :
    (takeCommandAlert s).work.accountStarted = true := by
  unfold takeCommandAlert; (repeat' split) <;> simp [h]

@[simp] theorem answerAlerted_started (e : Entry) (s : State) (h : s.work.accountStarted = true) :
    (answerAlerted e s).work.accountStarted = true := by
  unfold answerAlerted; (repeat' split) <;> simpa using h

@[simp] theorem judgeAlerted_started (closing : Bool) (s : State) (h : s.work.accountStarted = true) :
    (judgeAlerted closing s).work.accountStarted = true := by
  unfold judgeAlerted; (repeat' split) <;> first | exact h | exact answerAlerted_started _ s h

@[simp] theorem takeAttributed_started (a : Attribution) (s : State) (h : s.work.accountStarted = true) :
    (takeAttributed a s).work.accountStarted = true := by
  unfold takeAttributed; apply retireDone_started; apply judgeAlerted_started; simp [h]

@[simp] theorem writeCheckAlert_started (s : State) (h : s.work.accountStarted = true) :
    (writeCheckAlert s).work.accountStarted = true := by
  unfold writeCheckAlert; dsimp only; (repeat' split) <;> first | exact h | (apply takeAttributed_started; simpa using h)

@[simp] theorem closeAlert_started (s : State) (h : s.work.accountStarted = true) :
    (closeAlert s).work.accountStarted = true := by
  unfold closeAlert; (repeat' split) <;> simp [h]

@[simp] theorem commandErrorAlert_started (s : State) (h : s.work.accountStarted = true) :
    (commandErrorAlert s).work.accountStarted = true := by
  unfold commandErrorAlert; dsimp only; split <;>
    first | exact h | (apply retireDone_started; apply judgeAlerted_started; apply takeCommandAlert_started; simpa using h)

@[simp] theorem claimPhase_started (peers : ClaimBits) (s : State) (h : s.work.accountStarted = true) :
    (claimPhase peers s).work.accountStarted = true := by
  unfold claimPhase; simp [h]

@[simp] theorem claimFault_started (sampled : LaneBits) (s : State) (h : s.work.accountStarted = true) :
    (claimFault sampled s).work.accountStarted = true := by
  unfold claimFault; dsimp only; apply withdrawByDrain_started; simpa using h

@[simp] theorem readBack_started (sampled : LaneBits) (s : State) (h : s.work.accountStarted = true) :
    (readBack sampled s).work.accountStarted = true := by
  unfold readBack; dsimp only; (repeat' split) <;> first | exact h | (apply claimFault_started; exact h) | simpa using h

@[simp] theorem startSlot_started (s : State) (h : s.work.accountStarted = true) :
    (startSlot s).work.accountStarted = true := by
  unfold startSlot; simp [h]

@[simp] theorem defaultClaim_started (s : State) (h : s.work.accountStarted = true) :
    (defaultClaim s).work.accountStarted = true := by
  unfold defaultClaim; (repeat' split) <;> simp [h]

@[simp] theorem defaultReadBack_started (s : State) (h : s.work.accountStarted = true) :
    (defaultReadBack s).work.accountStarted = true := by
  unfold defaultReadBack; (repeat' split) <;> simp [h]

@[simp] theorem markEnded_started (presumed claimPresumed : Bool) (s : State) (h : s.work.accountStarted = true) :
    (markEnded presumed claimPresumed s).work.accountStarted = true := by
  unfold markEnded; simp [h]

@[simp] theorem reachEnd_started (s : State) (h : s.work.accountStarted = true) : (reachEnd s).work.accountStarted = true := by
  unfold reachEnd; dsimp only; split
  · exact h
  · exact markEnded_started _ _ _ (defaultReadBack_started _ (defaultClaim_started _ (startSlot_started s h)))

@[simp] theorem markObserved_started (o : Observed) (s : State) (h : s.work.accountStarted = true) :
    (markObserved o s).work.accountStarted = true := by
  unfold markObserved; simp [h]

@[simp] theorem noteAttribution_started (i : StationNo) (check : CheckValue) (bank : BankNo) (column : ColumnNo)
    (bursts : BurstCount) (s : State) (h : s.work.accountStarted = true) :
    (noteAttribution i check bank column bursts s).work.accountStarted = true := by
  unfold noteAttribution; simp [h]

@[simp] theorem noteWrite_started (i : StationNo) (check : CheckValue) (bank : BankNo) (column : ColumnNo)
    (bursts : BurstCount) (s : State) (h : s.work.accountStarted = true) :
    (noteWrite i check bank column bursts s).work.accountStarted = true := by
  unfold noteWrite; dsimp only; (repeat' split) <;> simp [h]

@[simp] theorem noteCommand_started (i : StationNo) (c : LaneCommand) (s : State) (h : s.work.accountStarted = true) :
    (noteCommand i c s).work.accountStarted = true := by
  unfold noteCommand; (repeat' split) <;> simp [h]

@[simp] theorem listenSync_started (i : StationNo) (c : LaneCommand) (d : Digest) (s : State)
    (h : s.work.accountStarted = true) :
    (listenSync i c d s).work.accountStarted = true := by
  unfold listenSync; dsimp only; (repeat' split) <;> simp [h]

@[simp] theorem listenCommand_started (i : StationNo) (fault : Bool) (c : LaneCommand) (s : State)
    (h : s.work.accountStarted = true) :
    (listenCommand i fault c s).work.accountStarted = true := by
  unfold listenCommand; (repeat' split) <;> simp [h]

@[simp] theorem advanceInit_started (c : LaneCommand) (s : State) (h : s.work.accountStarted = true) :
    (advanceInit c s).work.accountStarted = true := by
  unfold advanceInit; (repeat' split) <;> simp [h]

@[simp] theorem initializeCommand_started (i : StationNo) (c : LaneCommand) (s : State) (h : s.work.accountStarted = true) :
    (initializeCommand i c s).work.accountStarted = true := by
  unfold initializeCommand; (repeat' split) <;> simp [h]

@[simp] theorem endDoubt_started (c : LaneCommand) (s : State) (h : s.work.accountStarted = true) :
    (endDoubt c s).work.accountStarted = true := by
  unfold endDoubt; (repeat' split) <;> simp [h]

@[simp] theorem stationCommand_started (i : StationNo) (fault : Bool) (c : LaneCommand) (s : State)
    (h : s.work.accountStarted = true) :
    (stationCommand i fault c s).work.accountStarted = true := by
  unfold stationCommand; split <;> first | exact h | exact listenCommand_started _ _ _ s h |
    exact initializeCommand_started _ _ s h |
    (dsimp only; apply endDoubt_started; (repeat' split) <;> (repeat' apply takeDoubt_started) <;> simpa using h)

@[simp] theorem takeCommand_started (i : StationNo) (c : LaneCommand) (s : State) (h : s.work.accountStarted = true) :
    (takeCommand i c s).work.accountStarted = true := by
  unfold takeCommand; dsimp only; unfold followRefresh setDuty
  (repeat' split) <;> (try simp only [State.withController_work]) <;>
    (apply stationCommand_started; apply accountCommand_started; simpa using noteCommand_started i c s h)

@[simp] theorem takeUndefined_started (i : StationNo) (s : State) (h : s.work.accountStarted = true) :
    (takeUndefined i s).work.accountStarted = true := by
  unfold takeUndefined; (repeat' split) <;> simp [h]

@[simp] theorem takeEmpty_started (s : State) (h : s.work.accountStarted = true) :
    (takeEmpty s).work.accountStarted = true := by
  unfold takeEmpty; (repeat' split) <;> simp [h]

@[simp] theorem takeObserved_started (o : Observed) (s : State) (h : s.work.accountStarted = true) :
    (takeObserved o s).work.accountStarted = true := by
  unfold takeObserved; (repeat' split) <;> simp [h]

@[simp] theorem observe_started (o : Observed) (s : State) (h : s.work.accountStarted = true) :
    (observe o s).work.accountStarted = true := by
  unfold observe; dsimp only; split; apply retireDone_started; apply judgeAlerted_started; apply takeObserved_started;
    simpa using markObserved_started o (giveMemory o s) (by simpa using h)
  unfold followRefresh setDuty; (repeat' split) <;> simpa using h

@[simp] theorem takeRise_started (n : StationNo) (s : State) (h : s.work.accountStarted = true) :
    (takeRise n s).work.accountStarted = true := by
  unfold takeRise; simp [h]

@[simp] theorem dutyFall_started (n : StationNo) (s : State) (h : s.work.accountStarted = true) :
    (dutyFall n s).work.accountStarted = true := by
  unfold dutyFall; (repeat' split) <;> simp [h]

@[simp] theorem takeFall_started (n : StationNo) (s : State) (h : s.work.accountStarted = true) :
    (takeFall n s).work.accountStarted = true := by
  unfold takeFall; simp [h]

@[simp] theorem readyHigh_started (s : State) (h : s.work.accountStarted = true) :
    (readyHigh s).work.accountStarted = true := by
  unfold readyHigh; (repeat' split) <;> simp [h]

@[simp] theorem takeReady_started (high : Bool) (s : State) (h : s.work.accountStarted = true) :
    (takeReady high s).work.accountStarted = true := by
  unfold takeReady; (repeat' split) <;> simp [h]

@[simp] theorem takeQuiet_started (high : Bool) (s : State) (h : s.work.accountStarted = true) :
    (takeQuiet high s).work.accountStarted = true := by
  unfold takeQuiet; simp [h]

@[simp] theorem defaultSamples_started (s : State) (h : s.work.accountStarted = true) :
    (defaultSamples s).work.accountStarted = true := by
  unfold defaultSamples; dsimp only; (repeat' split) <;> simp [h]

@[simp] theorem defaultCommandAlert_started (s : State) (h : s.work.accountStarted = true) :
    (defaultCommandAlert s).work.accountStarted = true := by
  unfold defaultCommandAlert; (repeat' split) <;> simp [h]

@[simp] theorem defaultWriteAlert_started (s : State) (h : s.work.accountStarted = true) :
    (defaultWriteAlert s).work.accountStarted = true := by
  unfold defaultWriteAlert; (repeat' split) <;> simp [h]

@[simp] theorem defaultObserve_started (s : State) (h : s.work.accountStarted = true) :
    (defaultObserve s).work.accountStarted = true := by
  unfold defaultObserve; (repeat' split) <;> simp [h]

@[simp] theorem defaultCapture_started (s : State) (h : s.work.accountStarted = true) :
    (defaultCapture s).work.accountStarted = true := by
  unfold defaultCapture; (repeat' split) <;> simp [h]

@[simp] theorem defaultWindows_started (s : State) (h : s.work.accountStarted = true) :
    (defaultWindows s).work.accountStarted = true := by
  unfold defaultWindows; (repeat' split) <;> simp [h]

@[simp] theorem defaultState_started (s : State) (h : s.work.accountStarted = true) :
    (defaultState s).work.accountStarted = true := by
  unfold defaultState; dsimp only; (repeat' split) <;> simp [h]

@[simp] theorem acceptRecord_started (r : Record) (s : State) (h : s.work.accountStarted = true) :
    (acceptRecord r s).work.accountStarted = true := by
  unfold acceptRecord; simp [h]

@[simp] theorem completeRead_started (r : Record) (s : State) (h : s.work.accountStarted = true) :
    (completeRead r s).work.accountStarted = true := by
  unfold completeRead; dsimp only; split
  · exact badRecord_started _ _ (by simpa using h)
  · exact acceptRecord_started _ _ (by simpa using h)

@[simp] theorem defaultRecord_started (s : State) (h : s.work.accountStarted = true) :
    (defaultRecord s).work.accountStarted = true := by
  unfold defaultRecord; (repeat' split) <;> simp [h]

/-- At the end of such a slot the timer of an account that is still active counts by the channel state left (R145). -/
theorem settleAccount_counting (s : State) (h : s.work.accountStarted = true) (a : (settleAccount s).controller.active = true) :
    (settleAccount s).controller.counting = timerRuns (settleAccount s) := by
  unfold settleAccount timerRuns at *; split at a <;> simp_all

theorem settleSlot_counting (s : State) (h : s.work.accountStarted = true) (a : (settleSlot s).controller.active = true) :
    (settleSlot s).controller.counting = timerRuns (settleSlot s) := by
  unfold settleSlot at a ⊢
  dsimp only at a ⊢
  generalize hu : recastVote _ = u at a ⊢
  refine settleAccount_counting u ?_ a
  have h := defaultRecord_started _ (defaultSamples_started _ (reachEnd_started s h))
  have h := defaultObserve_started _ (defaultWriteAlert_started _ (defaultCommandAlert_started _ h))
  have h := closeAlert_started _ (defaultWindows_started _ (defaultCapture_started _ h))
  have h := countIdle_started _ (defaultState_started _ (retireDone_started true _ (countPeriod_started _ h)))
  rw [← hu]
  simpa only [recastVote, State.withController_work] using h

end Sys2Proof.Machine
end

