-- ==== Sys2Proof/Laws/Effects.lean ====
section
/-! SUPPORT. What the shared operations do when there is nothing for them to do, and what the changes of station state leave
in the blocks they change: the lemmas that a proof about one step cites in place of unfolding the operation. -/

namespace Sys2Proof.Machine

/-! ### Nothing to do -/

theorem expireAlerted_calm {s : State} (h : NothingExpires s) : expireAlerted s = s := by
  unfold expireAlerted
  split
  · rfl
  · next w hw => rw [if_neg (Nat.not_le_of_lt (h.2 w hw))]

theorem expireFence_calm {s : State} (h : NothingExpires s) : expireFence s = s := by
  unfold expireFence
  rw [expireAlerted_calm h]
  dsimp only
  split
  · rfl
  · next f hf => rw [if_neg (Nat.not_le_of_lt (h.1 f hf))]

theorem retireWalk_open {slot : Nat} {closing older : Bool} {q : List Entry}
    (h : ∀ e ∈ q, e.phase.answered = none ∧ e.mem.isSome = true) : retireWalk slot closing older q = (q, []) := by
  induction q generalizing older with
  | nil => rfl
  | cons e rest ih =>
    obtain ⟨h1, h2⟩ := h e (by simp)
    have hr : retiresWith slot closing older e = none := by
      unfold retiresWith
      rw [h1]
      cases hm : e.mem with
      | none => simp [hm] at h2
      | some m => simp
    have := ih (older := true) fun e he => h e (List.mem_cons_of_mem _ he)
    simp only [retireWalk, hr, this]

theorem retireDone_open {s : State} (closing : Bool) (h : QueueOpen s) : retireDone closing s = s := by
  unfold retireDone
  rw [retireWalk_open h]
  simp

theorem ageEntry_unjudged {c : Settings} {o : Observed} {e : Entry} (h : ∀ m, e.mem = some m → m.judged = none) :
    ageEntry c o e = e := by
  unfold ageEntry
  split
  · rfl
  · next m hm => rw [h m hm]

theorem ageQueue_unjudged {s : State} (o : Observed) (h : QueueUnjudged s) : ageQueue o s = s := by
  unfold ageQueue
  have : s.queue.map (ageEntry s.settings o) = s.queue := by
    conv_rhs => rw [← List.map_id s.queue]
    exact List.map_congr_left fun e he => ageEntry_unjudged (h e he)
  rw [this]
  rfl

theorem judgeAlerted_none {s : State} (closing : Bool) (h : s.work.attributed = none) : judgeAlerted closing s = s := by
  unfold judgeAlerted; rw [h]

theorem readBack_lost {s : State} (w : LaneBits) (h : wonClaim s = none) : readBack w s = s := by
  unfold readBack; rw [h]

theorem closeAlert_none {s : State} (h : s.work.attributed = none) : closeAlert s = s := by
  unfold closeAlert; rw [h]

/-- A slot whose end has begun has nothing left before it. -/
theorem reachEnd_ended {s : State} (h : s.work.ended = true) : reachEnd s = s := by
  unfold reachEnd; rw [h]; rfl

theorem reachObservation_ended {s : State} (w : LaneBits) (h : s.work.ended = true) : reachObservation w s = s := by
  unfold reachObservation; rw [h]; rfl

/-- What comes before a slot's end leaves the end begun. -/
@[simp] theorem reachEnd_work_ended (s : State) : (reachEnd s).work.ended = true := by
  unfold reachEnd
  split
  · assumption
  · simp [markEnded]

@[simp] theorem reachObservation_work_ended (w : LaneBits) (s : State) : (reachObservation w s).work.ended = true := by
  unfold reachObservation
  split
  · assumption
  · simp [markEnded]

theorem observeWord_ready {s : State} {o : Observed} (w : LaneBits) (h : ReadyToObserve o s) :
    observeWord w o s = observe o s := by
  obtain ⟨h1, h2, h3⟩ := h
  have : observedElsewhere o s = false := by
    unfold observedElsewhere
    rw [h1]
    cases hr : s.work.readBack with
    | none => rfl
    | some v => simp [h3 v hr]
  unfold observeWord meetWord
  rw [this]
  simp only [Bool.false_eq_true, if_false]
  rw [reachObservation_ended w h2]

theorem followRefresh_none {s : State} (h : observedRefresh s = none) : followRefresh s = s := by
  simp [followRefresh, h]

/-! ### The station state that each change leaves -/

theorem leaveChannel_membership (st : StationState) (s : State) :
    (leaveChannel st s).membership =
      { s.membership with state := st, initStep := none, drainTarget := none, leaveDoubt := false } := by
  simp [leaveChannel]

theorem leaveChannel_mirror (st : StationState) (s : State) :
    (leaveChannel st s).mirror = { s.mirror with known := none, fence := none } := by
  simp [leaveChannel, dropFence, doubtMirror]

theorem leaveChannel_table (st : StationState) (s : State) : (leaveChannel st s).table = s.table.emptied := by
  simp [leaveChannel, emptyTable]

theorem leaveChannel_account (st : StationState) (s : State) :
    (leaveChannel st s).controller.active = false ∧ (leaveChannel st s).controller.debt = 0 ∧
      (leaveChannel st s).controller.duty = none ∧ (leaveChannel st s).controller.vote = false := by
  simp [leaveChannel, withdrawVote, setDuty, stopAccount]

theorem enterListening_membership (s : State) :
    (enterListening s).membership =
      { s.membership with state := .listening, silence := 0, initStep := none, drainTarget := none, leaveDoubt := false } := by
  simp [enterListening, leaveChannel_membership]

theorem enterListening_mirror (s : State) :
    (enterListening s).mirror = { s.mirror with known := none, fence := none } := by
  simp [enterListening, leaveChannel_mirror]

theorem enterListening_table (s : State) : (enterListening s).table = s.table.emptied := by
  simp [enterListening, leaveChannel_table]

theorem enterInitializing_membership (s : State) :
    (enterInitializing s).membership = { s.membership with state := .initializing, initStep := some .setReadLatency } := by
  simp [enterInitializing]

theorem enterInitializing_mirror (s : State) :
    (enterInitializing s).mirror = { s.mirror with known := none, fence := none } := by
  simp [enterInitializing, dropFence, doubtMirror]

theorem enterMember_membership (s : State) :
    (enterMember s).membership = { s.membership with state := .member, initStep := none } := by
  simp [enterMember]

theorem enterMember_account (s : State) :
    (enterMember s).controller.active = true ∧ (enterMember s).controller.debt = 0 ∧
      (enterMember s).controller.periodCount = 0 ∧ (enterMember s).controller.idleCount = 0 := by
  simp [enterMember, startAccount]

theorem returnMember_membership (s : State) : (returnMember s).membership = { s.membership with state := .member } := by
  simp [returnMember, setState]

/-- A retirement changes one field of the controller, the idle count. -/
@[simp] theorem retireDone_controller (closing : Bool) (s : State) :
    (retireDone closing s).controller.active = s.controller.active ∧
      (retireDone closing s).controller.debt = s.controller.debt ∧
      (retireDone closing s).controller.counting = s.controller.counting ∧
      (retireDone closing s).controller.periodCount = s.controller.periodCount ∧
      (retireDone closing s).controller.duty = s.controller.duty ∧
      (retireDone closing s).controller.permission = s.controller.permission ∧
      (retireDone closing s).controller.vote = s.controller.vote := by
  unfold retireDone restartIdle
  dsimp only
  (repeat' split) <;> simp

/-- A retirement changes one field of the slot's work, the mark that the idle count is settled. -/
theorem retireDone_work (closing : Bool) (s : State) :
    (retireDone closing s).work = { s.work with idleSettled := (retireDone closing s).work.idleSettled } := by
  unfold retireDone restartIdle
  dsimp only
  (repeat' split) <;> simp

@[simp] theorem retireDone_work_fields (closing : Bool) (s : State) :
    (retireDone closing s).work.observed = s.work.observed ∧ (retireDone closing s).work.readBack = s.work.readBack ∧
      (retireDone closing s).work.claim = s.work.claim ∧ (retireDone closing s).work.faulted = s.work.faulted ∧
      (retireDone closing s).work.doubted = s.work.doubted ∧ (retireDone closing s).work.attributed = s.work.attributed ∧
      (retireDone closing s).work.arrived = s.work.arrived ∧ (retireDone closing s).work.positions = s.work.positions := by
  rw [retireDone_work]
  simp

/-- A retirement changes one counter, requests_completed (R193). -/
theorem retireDone_counters (closing : Bool) (s : State) :
    (retireDone closing s).counters =
      { s.counters with requestsCompleted := (retireDone closing s).counters.requestsCompleted } := by
  unfold retireDone restartIdle
  dsimp only
  (repeat' split) <;> simp

/-- A retirement changes one field of the port, the responses made in the slot. -/
theorem retireDone_port (closing : Bool) (s : State) :
    (retireDone closing s).port = { s.port with joining := (retireDone closing s).port.joining } := by
  unfold retireDone restartIdle
  dsimp only
  (repeat' split) <;> simp

theorem dropFence_mirror (s : State) : (dropFence s).mirror = { s.mirror with fence := none } := by simp [dropFence]

@[simp] theorem clearOwnFence_known (s : State) :
    (clearOwnFence s).mirror.known = s.mirror.known ∧ (clearOwnFence s).mirror.kept = s.mirror.kept := by
  unfold clearOwnFence
  (repeat' split) <;> simp [dropFence]

@[simp] theorem clearFenceOf_known (tag : Tag) (s : State) :
    (clearFenceOf tag s).mirror.known = s.mirror.known ∧ (clearFenceOf tag s).mirror.kept = s.mirror.kept := by
  unfold clearFenceOf
  dsimp only
  (repeat' split) <;> simp

@[simp] theorem expireFence_known (s : State) :
    (expireFence s).mirror.known = s.mirror.known ∧ (expireFence s).mirror.kept = s.mirror.kept := by
  unfold expireFence
  dsimp only
  (repeat' split) <;> simp [dropFence]

@[simp] theorem loseWriteRetry_known (e : Entry) (s : State) :
    (loseWriteRetry e s).mirror.known = s.mirror.known ∧ (loseWriteRetry e s).mirror.kept = s.mirror.kept := by
  simp [loseWriteRetry]

@[simp] theorem loseWriteRetries_known (s : State) :
    (loseWriteRetries s).mirror.known = s.mirror.known ∧ (loseWriteRetries s).mirror.kept = s.mirror.kept := by
  unfold loseWriteRetries
  generalize List.filter _ s.queue = es
  induction es generalizing s with
  | nil => simp
  | cons e rest ih => simp only [List.foldl_cons]; have h := ih (loseWriteRetry e s); simpa using h

theorem loseTrust_mirror (s : State) :
    (loseTrust s).mirror.known = none ∧ (loseTrust s).mirror.kept = s.mirror.kept := by
  unfold loseTrust
  dsimp only
  split <;> simp [doubtMirror, withdrawVote, emptyTable]

theorem loseTrust_table (s : State) : (loseTrust s).table.reservations = [] := by
  unfold loseTrust
  dsimp only
  split <;> simp [emptyTable, ReservationTable.emptied]

theorem loseTrust_vote (s : State) : (loseTrust s).controller.vote = false := by
  unfold loseTrust
  dsimp only
  split <;> simp [withdrawVote]

theorem enterResync_membership (s : State) : (enterResync s).membership = { s.membership with state := .resync } := by
  unfold enterResync loseTrust
  dsimp only
  split <;> simp [setState]

theorem setLeaveDoubt_membership (s : State) :
    (setLeaveDoubt s).membership = { s.membership with leaveDoubt := true } := by
  unfold setLeaveDoubt loseTrust
  dsimp only
  split <;> simp

theorem enterDraining_membership (target : DrainTarget) (s : State) :
    (enterDraining target s).membership =
      { s.membership with state := .draining, initStep := none, drainTarget := some target, leaveDoubt := false } := by
  simp [enterDraining]

theorem enterDraining_mirror (target : DrainTarget) (s : State) :
    (enterDraining target s).mirror = { s.mirror with known := none, fence := none } := by
  simp [enterDraining, doubtMirror, dropFence]

theorem enterDraining_table (target : DrainTarget) (s : State) :
    (enterDraining target s).table.reservations = [] := by
  simp [enterDraining, emptyTable, ReservationTable.emptied]

theorem enterDraining_vote (target : DrainTarget) (s : State) : (enterDraining target s).controller.vote = false := by
  simp [enterDraining, withdrawVote]

end Sys2Proof.Machine
end

