-- ==== Sys2Proof/Laws/Memory.lean ====
section
/-! SUPPORT. The channel memory's contents: reading after writing, and that every operation of the memory keeps the contents
in their canonical form. -/

namespace Sys2Proof.Machine

/-! ### The canonical form -/

theorem contentsOk_cons (a : Nat) (x : Byte) (m : List Host.Cell) :
    contentsOk ((a, x) :: m) = true ↔ (∀ p ∈ m, a < p.1) ∧ contentsOk m = true := by
  induction m generalizing a x with
  | nil => simp [contentsOk]
  | cons p rest ih =>
    obtain ⟨b, y⟩ := p
    simp only [contentsOk, Bool.and_eq_true, decide_eq_true_eq]
    constructor
    · rintro ⟨hab, h⟩
      refine ⟨?_, h⟩
      intro q hq
      rcases List.mem_cons.1 hq with rfl | hq
      · exact hab
      · exact Nat.lt_trans hab (((ih b y).1 h).1 q hq)
    · rintro ⟨h1, h2⟩
      exact ⟨h1 (b, y) (by simp), h2⟩

theorem contentsOk_tail {p : Host.Cell} {m : List Host.Cell} (h : contentsOk (p :: m) = true) : contentsOk m = true :=
  ((contentsOk_cons p.1 p.2 m).1 h).2

theorem storeByte_mem {m : List Host.Cell} {a : Nat} {x : Byte} {p : Host.Cell} (h : p ∈ storeByte m a x) :
    p = (a, x) ∨ p ∈ m := by
  induction m with
  | nil => exact .inl (by simpa [storeByte] using h)
  | cons q rest ih =>
    obtain ⟨b, y⟩ := q
    unfold storeByte at h
    split at h
    · simpa using h
    · split at h
      · rcases List.mem_cons.1 h with h | h
        · exact .inl h
        · exact .inr (List.mem_cons_of_mem _ h)
      · rcases List.mem_cons.1 h with h | h
        · exact .inr (by simp [h])
        · rcases ih h with h | h
          · exact .inl h
          · exact .inr (List.mem_cons_of_mem _ h)

theorem forgetByte_mem {m : List Host.Cell} {a : Nat} {p : Host.Cell} (h : p ∈ forgetByte m a) : p ∈ m := by
  induction m with
  | nil => exact h
  | cons q rest ih =>
    obtain ⟨b, y⟩ := q
    unfold forgetByte at h
    split at h
    · exact List.mem_cons_of_mem _ h
    · rcases List.mem_cons.1 h with h | h
      · simp [h]
      · exact List.mem_cons_of_mem _ (ih h)

theorem storeByte_ok {m : List Host.Cell} (a : Nat) (x : Byte) (h : contentsOk m = true) :
    contentsOk (storeByte m a x) = true := by
  induction m with
  | nil => rfl
  | cons q rest ih =>
    obtain ⟨b, y⟩ := q
    obtain ⟨hb, hr⟩ := (contentsOk_cons b y rest).1 h
    unfold storeByte
    split
    · next hab =>
      refine (contentsOk_cons _ _ _).2 ⟨?_, h⟩
      intro p hp
      rcases List.mem_cons.1 hp with rfl | hp
      · exact hab
      · exact Nat.lt_trans hab (hb p hp)
    · split
      · next hab => subst hab; exact (contentsOk_cons _ _ _).2 ⟨hb, hr⟩
      · refine (contentsOk_cons _ _ _).2 ⟨?_, ih hr⟩
        intro p hp
        rcases storeByte_mem hp with rfl | hp
        · exact Nat.lt_of_le_of_ne (by omega) (by omega)
        · exact hb p hp

theorem forgetByte_ok {m : List Host.Cell} (a : Nat) (h : contentsOk m = true) : contentsOk (forgetByte m a) = true := by
  induction m with
  | nil => rfl
  | cons q rest ih =>
    obtain ⟨b, y⟩ := q
    obtain ⟨hb, hr⟩ := (contentsOk_cons b y rest).1 h
    unfold forgetByte
    split
    · exact hr
    · exact (contentsOk_cons _ _ _).2 ⟨fun p hp => hb p (forgetByte_mem hp), ih hr⟩

theorem storeGranule_ok {m : List Host.Cell} (g : Nat) (d : BurstData) (mask : Mask) (h : contentsOk m = true) :
    contentsOk (storeGranule m g d mask) = true := by
  unfold storeGranule
  generalize granuleBytes = js
  induction js generalizing m with
  | nil => exact h
  | cons j rest ih =>
    simp only [List.foldl_cons]
    apply ih
    split
    · exact storeByte_ok _ _ h
    · exact h

theorem forgetGranule_ok {m : List Host.Cell} (g : Nat) (h : contentsOk m = true) :
    contentsOk (forgetGranule m g) = true := by
  unfold forgetGranule
  generalize granuleBytes = js
  induction js generalizing m with
  | nil => exact h
  | cons j rest ih => simp only [List.foldl_cons]; exact ih (forgetByte_ok _ h)

/-! ### Reading after writing -/

theorem readByte_storeByte_same (m : List Host.Cell) (a : Nat) (x : Byte) : readByte (storeByte m a x) a = some x := by
  induction m with
  | nil => simp [storeByte, readByte]
  | cons q rest ih =>
    obtain ⟨b, y⟩ := q
    unfold storeByte
    split
    · simp [readByte]
    · split
      · simp [readByte]
      · next h => simp [readByte, h, ih]

theorem readByte_storeByte_other (m : List Host.Cell) {a c : Nat} (x : Byte) (h : c ≠ a) :
    readByte (storeByte m a x) c = readByte m c := by
  induction m with
  | nil => simp [storeByte, readByte, h]
  | cons q rest ih =>
    obtain ⟨b, y⟩ := q
    unfold storeByte
    split
    · simp [readByte, h]
    · split
      · next hab => subst hab; simp [readByte, h]
      · simp [readByte, ih]

theorem readByte_forgetByte_other (m : List Host.Cell) {a c : Nat} (h : c ≠ a) :
    readByte (forgetByte m a) c = readByte m c := by
  induction m with
  | nil => rfl
  | cons q rest ih =>
    obtain ⟨b, y⟩ := q
    unfold forgetByte
    split
    · next hab => subst hab; simp [readByte, h]
    · simp [readByte, ih]

theorem readByte_none_of_below {m : List Host.Cell} {a : Nat} (h : ∀ p ∈ m, a < p.1) : readByte m a = none := by
  induction m with
  | nil => rfl
  | cons q rest ih =>
    obtain ⟨b, y⟩ := q
    have := h (b, y) (by simp)
    simp only [readByte]
    rw [if_neg (by simp at this; omega)]
    exact ih fun p hp => h p (List.mem_cons_of_mem _ hp)

theorem readByte_forgetByte_same {m : List Host.Cell} (a : Nat) (h : contentsOk m = true) :
    readByte (forgetByte m a) a = none := by
  induction m with
  | nil => rfl
  | cons q rest ih =>
    obtain ⟨b, y⟩ := q
    obtain ⟨hb, hr⟩ := (contentsOk_cons b y rest).1 h
    unfold forgetByte
    split
    · next hab => subst hab; exact readByte_none_of_below hb
    · next hab => simp only [readByte]; rw [if_neg hab]; exact ih hr

/-! ### The operations of the memory on its contents -/

@[simp] theorem ChannelMemory.withBank_contents (m : ChannelMemory) (k : BankNo) (b : MemoryBank) :
    (m.withBank k b).contents = m.contents := rfl
@[simp] theorem ChannelMemory.mapBanks_contents (m : ChannelMemory) (f : MemoryBank → MemoryBank) :
    (m.mapBanks f).contents = m.contents := rfl
@[simp] theorem ChannelMemory.closeEvery_contents (m : ChannelMemory) : m.closeEvery.contents = m.contents := rfl
@[simp] theorem ChannelMemory.addData_contents (m : ChannelMemory) (d : Direction) (bank : BankNo) (column : ColumnNo)
    (bursts : BurstCount) (own : Bool) : (m.addData d bank column bursts own).contents = m.contents := rfl
@[simp] theorem ChannelMemory.refuse_contents (m : ChannelMemory) : m.refuse.contents = m.contents := rfl
@[simp] theorem ChannelMemory.fixReads_contents (m : ChannelMemory) : m.fixReads.contents = m.contents := rfl
@[simp] theorem ChannelMemory.openSlot_contents (m : ChannelMemory) : m.openSlot.contents = m.contents := rfl

/-- An accepted command leaves the contents, but for CLOSE_ALL(INIT), which makes all of them undefined (R17). -/
theorem ChannelMemory.effect_contents (m : ChannelMemory) (own : Bool) (c : LaneCommand) :
    (m.effect own c).contents = m.contents ∨ (m.effect own c).contents = [] := by
  cases c with
  | closeAll check purpose digest => cases purpose <;> simp [ChannelMemory.effect]
  | modeSet item value => simp only [ChannelMemory.effect]; split_ifs <;> simp
  | _ => simp [ChannelMemory.effect]

theorem ChannelMemory.take_ok {m : ChannelMemory} (own : StationNo → Bool) (o : Observed)
    (h : contentsOk m.contents = true) : contentsOk (m.take own o).contents = true := by
  cases o with
  | empty => exact h
  | undefined i => exact h
  | command i c =>
    simp only [ChannelMemory.take]
    split
    · rcases m.effect_contents (own i) c with e | e <;> rw [e]
      · exact h
      · rfl
    · exact h

theorem ChannelMemory.endWrite_contents (m : ChannelMemory) (last : Bool) : (m.endWrite last).contents = m.contents := by
  unfold ChannelMemory.endWrite; split <;> rfl

theorem ChannelMemory.store_ok {m : ChannelMemory} (g : Nat) (d : DataSlot) (h : contentsOk m.contents = true) :
    contentsOk (m.store g d).contents = true := by
  unfold ChannelMemory.store
  split
  · exact storeGranule_ok _ _ _ h
  · exact h

theorem ChannelMemory.receive_ok {m : ChannelMemory} (driving : Option DataSlot) (o : OwnedSlot)
    (h : contentsOk m.contents = true) : contentsOk (m.receive driving o).contents = true := by
  unfold ChannelMemory.receive
  rw [ChannelMemory.endWrite_contents]
  split
  · have := forgetGranule_ok o.granule h
    simpa only using this
  · dsimp only
    split
    · simpa only using h
    · exact ChannelMemory.store_ok _ _ h

theorem ChannelMemory.ageRetention_ok {m : ChannelMemory} (h : contentsOk m.contents = true) :
    contentsOk m.ageRetention.contents = true := by
  unfold ChannelMemory.ageRetention
  split_ifs
  · exact h
  · rfl
  · exact h

theorem ChannelMemory.endSlot_ok {m : ChannelMemory} (driving : Option DataSlot) (h : contentsOk m.contents = true) :
    contentsOk (m.endSlot driving).contents = true := by
  unfold ChannelMemory.endSlot
  simp only [ChannelMemory.openSlot_contents]
  apply ChannelMemory.ageRetention_ok
  simp only [ChannelMemory.fixReads_contents]
  split
  · split
    · exact ChannelMemory.receive_ok _ _ h
    · exact h
  · exact h

end Sys2Proof.Machine
end

