-- ==== Sys2Proof/WellFormed.lean ====
section
/-! DEFINITION. The checks on a step's operands that their types do not already make. -/

namespace Sys2Proof

/-- An undefined command's kind code is 10 to 15 (R194). -/
def undefinedKindOk (kind : BitVec 4) : Bool := decide (10 ≤ kind.toNat)

/-- An undefined request's kind code is 11 to 15 (R196). -/
def undefinedRequestOk (kind : BitVec 4) : Bool := decide (11 ≤ kind.toNat)

/-- A write request brings at most the nine words a burst that its header calls for (R186). -/
def writeWordsOk (bursts : BurstCount) (words : List PortWord) : Bool := decide (words.length ≤ 9 * bursts.toNat)

/-- The operands are such as the part's formats can carry. -/
def Instr.wellFormed : Instr → Bool
  | .undefinedCommand kind _ => undefinedKindOk kind
  | .undefinedRequestKind kind _ => undefinedRequestOk kind
  | .writeRequest _ _ bursts _ _ words => writeWordsOk bursts words
  | .exclWriteRequest _ _ bursts _ words => writeWordsOk bursts words
  | .hardReset | .resetRelease .. | .startRecordReadComplete .. | .claimPhase .. | .commandReadBack .. => true
  | .openCommand .. | .closeCommand .. | .readCommand .. | .writeCommand .. | .closeAllCommand .. => true
  | .refreshCommand .. | .sleepCommand .. | .wakeCommand .. | .modeSetCommand .. | .emptySlot => true
  | .commandErrorAlert | .writeCheckAlert | .presenceRise .. | .presenceFall .. => true
  | .readyLineChange .. | .quietLineChange .. | .listenWaitExpiry | .periodExpiry | .idleWaitExpiry => true
  | .readBurstCapture .. | .writeBurstDrive | .alertWindowExpiry | .fenceLimitExpiry | .drainComplete | .detach => true
  | .readRequest .. | .exclReadRequest .. | .fence .. | .quietPermit .. | .leave .. | .join .. | .restart .. => true
  | .report .. | .clear .. | .strayWordDiscard .. | .responseSend => true

end Sys2Proof
end

