-- ==== Sys2Proof/Tests/Slice0.lean ====
section
/-! SUPPORT. Small tests: the checks of WellFormed, words and numbers that the manual works out, one step of the plainest
steps, and for every statement with hypotheses a witness, a concrete state and operands that meet them together. -/

namespace Sys2Proof.Tests

open Sys2Proof Sys2Proof.Machine

-- one test after another: each takes a thread's stack of its own otherwise
set_option Elab.async false

/-! ### Example data -/

/-- The example start record, word for word (section 2.8). -/
def record : Record :=
  #v[1, 4, 10, 4, 5, 5, 4, 2, 3, 2, 10, 10, 40, 1560, 32, 1024, 4096, 2, 20, 4, 1, 1, 2, 0, 0, 63, 65535, 3, 64, 0, 255,
    65535, 1, 0, 0, 0, 0, 0, 0, 0, 0, 0, 0, 58310]

/-- The configuration that the example record loads. -/
def board : Settings := recordSettings record

/-- Kept fields with nothing pending. -/
def kept : KeptFields := ⟨0, none, 0, 0, 0, none, false, none, none⟩

/-- A known mirror, running, every bank CLOSED. -/
def closedBanks : KnownMirror := ⟨Vector.replicate 16 ⟨none, 0, 0, 0⟩, .running, false, false⟩

/-- The same with row 7 open in bank 3 since slot 900. -/
def openBank : KnownMirror := closedBanks.withBank 3 ⟨some ⟨7, 900⟩, 904, 910, 0⟩

/-- The work of a slot whose end has begun: what comes before it is over. -/
def endWork : SlotWork := { SlotWork.fresh with claimTaken := true, ended := true }

/-- Station 2 in slot 1000 in a state, with a mirror, the example configuration, stations 2 and 5 present, and the ready and
take lines high; the slot's end has begun. -/
def station (st : StationState) (m : Option KnownMirror) : State :=
  { State.reset with
    slot := 1000
    work := endWork
    lines := { readySample := true, quietSample := true, presence := true, ready := false, quietReleased := false }
    loader := ⟨some 2, some record, some board, false, false, false⟩
    membership :=
      { state := st, roster := 0x24, silence := 3, initStep := none, drainTarget := none, leaveDoubt := false }
    mirror := ⟨m, some kept, none⟩
    controller :=
      { active := true, debt := 3, counting := true, periodCount := 10, duty := some 5, permission := some true,
        idleCount := 1023, vote := false }
    port := { State.reset.port with take := true } }

def member : State := station .member (some closedBanks)
def memberOpen : State := station .member (some openBank)
def listening : State := station .listening none

/-- The same slot at its start. -/
def begun (s : State) : State := s.withWork SlotWork.fresh

/-- A station whose record is being read, in the slot that brings its last bit. -/
def loading : State :=
  { State.reset with
    slot := 719
    work := endWork
    loader := ⟨some 2, none, none, true, false, true⟩
    membership :=
      { state := .loading, roster := 0x20, silence := 0, initStep := none, drainTarget := none, leaveDoubt := false }
    port := { State.reset.port with take := true } }

/-- The bits of a record, word 0 first, each word bit 15 first. -/
def bitsOf (r : Record) : SerialRecord := r.toList.foldl (fun b w => (b <<< 16) ||| w.setWidth 704) 0

/-- An entry of one burst at bank 3, row 7, column 5. -/
def fields (kind : MemKind) (issued : Option Nat) : MemFields where
  kind := kind
  thread := 1
  bank := 3
  row := 7
  column := 5
  bursts := 1
  writeData := [⟨zeroBurst, BitVec.allOnes 64⟩]
  captured := []
  captureFailed := false
  cls := .ordinary
  age := 0
  guardCount := 0
  retryUsed := false
  issueSlot := issued
  retrySlot := none
  judged := none

/-- The entry of those fields, with tag 9. -/
def entry (kind : MemKind) (phase : Phase) (issued : Option Nat) : Entry := ⟨9, phase, some (fields kind issued), 990, 0⟩

/-- Steps taken one after another in a slot. -/
def run (cs : List Instr) (s : State) : State :=
  cs.foldl (fun s c => match exec c s with | .next t => t | .fault _ => s | .refused _ => s) s

/-- A state whose claim phase has been won for a candidate. -/
def winning (c : Candidate) (s : State) : State :=
  s.withWork { SlotWork.fresh with claimTaken := true, claim := some (claimOf s 0 c) }

/-- A queue entry's candidate. -/
def fromQueue (c : LaneCommand) : Candidate := ⟨.queue 0 9, c, .ordinary, 16⟩

/-- A state with a fence of a station over bank 3, row 7, column 5. -/
def fenced (issuer : StationNo) (limit : Nat) (final : Bool) (s : State) : State :=
  s.withMirror { s.mirror with fence := some ⟨issuer, 3, 7, 5, 1, limit, final⟩ }

/-- A state that has observed a WRITE of a station to bank 3, row 7, column 5 in a slot. -/
def attributing (issuer : StationNo) (slot : Nat) (retried : Bool) (s : State) : State :=
  s.withDataUnit { s.dataUnit with attribution := some ⟨slot, issuer, 3, 5, 1, 7, retried⟩ }

/-! ### How the hypotheses are met -/

theorem ready_ended {s : State} (o : Observed) (h : s.work = endWork) : ReadyToObserve o s := by
  simp [ReadyToObserve, h, endWork, SlotWork.fresh]

theorem nothing_expires {s : State} (h : s.mirror.fence = none) (w : s.dataUnit.lastAlerted = none) : NothingExpires s := by
  simp [NothingExpires, h, w]

theorem queue_open_empty {s : State} (h : s.queue = []) : QueueOpen s := by simp [QueueOpen, h]

theorem calm_empty {s : State} (q : s.queue = []) (a : s.work.attributed = none) : Calm s :=
  ⟨queue_open_empty q, by simp [QueueUnjudged, q], a⟩

/-! ### WellFormed refuses -/

theorem test_kind_9_is_no_undefined_command : Instr.wellFormed (.undefinedCommand 9 0) = false := by decide
theorem test_kind_10_is_an_undefined_command : Instr.wellFormed (.undefinedCommand 10 0) = true := by decide
theorem test_kind_10_is_no_undefined_request : Instr.wellFormed (.undefinedRequestKind 10 0) = false := by decide
theorem test_kind_11_is_an_undefined_request : Instr.wellFormed (.undefinedRequestKind 11 0) = true := by decide
theorem test_ten_words_are_no_write_of_one_burst :
    Instr.wellFormed (.writeRequest 0 0 1 false 0 (List.replicate 10 0)) = false := by decide
theorem test_ten_words_are_no_exclusive_write :
    Instr.wellFormed (.exclWriteRequest 0 0 1 0 (List.replicate 10 0)) = false := by decide
theorem test_nine_words_are_a_write_of_one_burst :
    Instr.wellFormed (.writeRequest 0 0 1 false 0 (List.replicate 9 0)) = true := by decide

/-! ### Numbers the manual works out -/

/-- An operand-less width has no command; a word of 48 bits is what the lane carries (R194), one of 64 bits a request header
(R196). -/
theorem test_words_of_other_widths : decodeTableWord 8 0 = none ∧ decodeTableWord 16 0x6C00 = none := by decide
theorem test_lane_word_is_its_command :
    decodeTableWord 48 0b0001_101_1111111111111111_0011_000000000000111_000000 = some (.openCommand 5 0xFFFF 3 7) ∧
      decodeTableWord 48 0 = some .emptySlot ∧
      decodeTableWord 48 0b1010_011_00000000000000000000000000000000000000000 = some (.undefinedCommand 10 3) := by decide
theorem test_header_is_its_request :
    decodeTableWord 64 0b0000_00011_0001_010_1_0_0000000000000000_001010000001010011110001000000 =
        some (.readRequest 3 1 2 true 0x0A053C40) ∧
      decodeTableWord 64 (0b1011_00100 * 2 ^ 55) = some (.undefinedRequestKind 11 4) := by decide

/-- The digest of the typical timing set (section 2.5). -/
theorem test_typical_digest : recordDigest record = 0x544B := by decide +kernel
/-- The example record passes (section 2.8). -/
theorem test_example_record_passes : judgeRecord record = none := by decide +kernel
/-- The example with WRITE_SPACING 8 fails with detail 43, and with word 43 corrected with detail 11 (section 2.8). -/
theorem test_bad_record_example :
    judgeRecord (record.set 11 8) = some 43 ∧ judgeRecord ((record.set 11 8).set 43 58312) = some 11 := by decide +kernel
/-- The example record's RESYNC_HOLD is 13 (section 2.8). -/
theorem test_example_resync_hold : board.resyncHold = 13 := by decide +kernel
/-- The record's bits make its words, and a device that does not answer gives all ones, which fail with detail 0 (R26, R198). -/
theorem test_record_bits :
    recordOfBits (bitsOf record) = record ∧ judgeRecord (recordOfBits absentBits) = some 0 := by decide +kernel
/-- The 720th slot of the read ends it whatever the device does, and the 719th does not (R26). -/
theorem test_absent_device :
    (match step loading with | .next t => (t.membership.state, t.faults.first) | _ => (.off, none)) =
        (.withdrawn, some (.badStartRecord, 0)) ∧
      (match step (loading.withSlot 718) with | .next t => t.membership.state | _ => .off) = .loading := by decide +kernel
/-- The bits brought in slot 717 arrive in slot 719 (R26). -/
theorem test_record_brought_early :
    (match exec (.startRecordReadComplete (bitsOf record)) (loading.withSlot 717) with
      | .next t => (t.slot, t.membership.state) | _ => (0, .off)) = (719, .listening) := by decide +kernel
/-- The read request (R198): 0110 1100 0000 0000. -/
theorem test_read_request : Config.readRequest = 0b0110110000000000#16 := by decide
/-- 63 zero bytes and a last byte 01 have check 07, and 64 zero bytes check 00 (R173). -/
theorem test_burst_check : burstCheck (zeroBurst.set 7 0x0100000000000000) = 0x07 ∧ burstCheck zeroBurst = 0 := by decide +kernel
/-- The claim words of the example (section 7.3): 01 010111 010 and 10 010011 101. -/
theorem test_claim_words : claimWord .ordinary 23 2 = 0b01010111010#11 ∧ claimWord .priority 19 5 = 0b10010011101#11 := by
  decide
/-- Station 5's word wins the example's contest against station 2's, which drives nothing past bit time 1 (section 7.3). -/
theorem test_example_contest :
    (contest 0b10010011101#11 0#11 11).2 = true ∧ contest 0b01010111010#11 0b10010011101#11 11 = (0, false) := by
  decide

/-! ### Words written out from section 11 -/

/-- OPEN from station 5 of bank 3, row 7, check CLOSED: kind 0001, issuer 101, check, bank 0011, row, six zero bits. -/
theorem test_open_word :
    decodeCommand 0b0001_101_1111111111111111_0011_000000000000111_000000#48 = .command 5 (.openRow 0xFFFF 3 7) := by decide
/-- READ from station 1 of bank 2, column 9, two bursts, check row 4. -/
theorem test_read_word :
    decodeCommand 0b0100_001_0000000000000100_0010_01001_010_0000000000000#48 = .command 1 (.read 4 2 9 2) := by decide
/-- CLOSE_ALL(RECOVER) from station 6 with digest 0x544B. -/
theorem test_close_all_word :
    decodeCommand 0b0011_110_0000000000000000_11_0101010001001011_0000000#48 =
      .command 6 (.closeAll 0 .recover 0x544B) := by decide
/-- The header of a READ of tag 3, thread 1, two bursts, urgent, at address 0x0A053C40. -/
theorem test_read_header :
    decodeHeader 0b0000_00011_0001_010_1_0_0000000000000000_001010000001010011110001000000#64 =
      ⟨0, 3, 1, 2, true, false, 0x0A053C40⟩ := by decide

/-! ### Witnesses: the queue and the slot -/

theorem witness_StepRunsFrontCommand : (member.withPending [.emptySlot]).pending = .emptySlot :: [] := by decide

theorem witness_EmptyQueueEndsSlot : member.pending = [] ∧ member.membership.state ≠ .off := by decide +kernel

/-! ### Witnesses: words and the contest -/

theorem witness_LaneCommandWordsRoundTrip :
    ((0x0FFFFFFFFFFF#48).extractLsb' 44 4).toNat = 0 ∧ 10 ≤ ((0xA00000000000#48).extractLsb' 44 4).toNat ∧
      10 ≤ ((0xF00000000000#48).extractLsb' 44 4).toNat ∧ 1 ≤ ((0x100000000000#48).extractLsb' 44 4).toNat ∧
      ((0x900000000000#48).extractLsb' 44 4).toNat ≤ 9 := by decide

theorem witness_RequestHeadersRoundTrip :
    (decodeHeader 0).kind = 0 ∧ (decodeHeader 0xA000000000000000).kind = 10 ∧
      11 ≤ (decodeHeader 0xB000000000000000).kind.toNat ∧ 11 ≤ (decodeHeader 0xF000000000000000).kind.toNat := by decide

/-- Scores 0 and 63 are below 64, a queue within the limits with an entry at AGE_MAX, a good record, and a member whose debt is
urgent. -/
theorem witness_ClaimWordsCompareByField :
    let e : Entry := { entry .read .waiting none with mem := some { fields .read none with age := 20, guardCount := 4 } }
    let s := memberOpen.withQueue [e]
    (0 < 64 ∧ 63 < 64) ∧ WithinLimits s ∧ s.settings.ageMax ≤ 31 ∧ e ∈ s.queue ∧ judgeRecord record = none ∧
      maintenanceOf (member.withController { member.controller with debt := 5 }) =
        some ⟨.controller, .closeAll 0 .refresh 0x544B, .maintenance, 60⟩ := by
  have h : board.ageMax = 20 ∧ board.guardMax = 4 := by decide +kernel
  refine ⟨by decide, ?_, by decide +kernel, by decide +kernel, by decide +kernel, by decide +kernel⟩
  simp [WithinLimits, EntryWithin, entry, fields, queueTags, reservedThreads, memberOpen, station, State.reset, State.settings,
    h.1, h.2]

/-- The words of stations 2 and 5 in the example: station 5 drives its whole word, station 2 nothing. -/
theorem witness_HighestClaimWordWins :
    let words : Fin 2 → ClaimBits := ![0b01010111010#11, 0b10010011101#11]
    let driven : Fin 2 → ClaimBits := ![0, 0b10010011101#11]
    (∀ i, driven i = (contest (words i) (drivenByOthers 2 driven i) 11).1) ∧ ∀ i j, words i = words j → i = j := by
  decide +kernel

/-- A member, a leaving, an initializing and a resynchronizing station for the maintenance offers; a queue in which an entry is
offered, one is blocked by it and a FENCE stands; an EXCL_WRITE whose thread holds its reservation, and one whose does not. -/
theorem witness_ClaimPhaseContests :
    let leave := station .leaving (some closedBanks)
    let q := [entry .write .waiting none, entry .read .waiting none, ⟨4, .waiting, none, 990, 2⟩]
    let s := begun (memberOpen.withQueue q)
    let x := begun (memberOpen.withQueue [entry .exclWrite .waiting none])
    let held := x.withTable ⟨[⟨1, 3, 7, 5, 900⟩], none⟩
    (begun member).work.claimTaken = false ∧ (begun member).work.ended = false ∧ NothingExpires (begun member) ∧
      (begun member).mirror.known = some closedBanks ∧ member.mirror.kept = some kept ∧ leave.membership.state = .leaving ∧
      leave.membership.leaveDoubt = false ∧ (station .resync none).membership.state = .resync ∧
      (station .resync none).mirror.known = none ∧ s.mirror.known = some openBank ∧ s.mirror.kept = some kept ∧
      offersEntries s = true ∧ offersEntries (begun listening) = false ∧
      s.queue = [entry .write .waiting none] ++ entry .read .waiting none :: [⟨4, .waiting, none, 990, 2⟩] ∧
      blocks (entry .write .waiting none) (fields .read none) = true ∧
      (fields .exclWrite none).kind = .exclWrite ∧ openBank.openRow 3 = some 7 ∧ held.table.covers (fields .exclWrite none) = true ∧
      x.table.covers (fields .exclWrite none) = false ∧ (claimPhase 0 (begun member)).work.claim = none ∧
      ((claimPhase 0 s).work.claim.map Claim.won = some true) ∧ ((claimPhase 0x400 s).work.claim.map Claim.won = some false) :=
  ⟨by decide +kernel, by decide +kernel, nothing_expires rfl rfl, rfl, rfl, rfl, rfl, rfl, rfl, rfl, rfl, by decide +kernel,
    by decide +kernel, rfl, by decide +kernel, rfl, by decide +kernel, by decide +kernel, by decide +kernel, by decide +kernel,
    by decide +kernel, by decide +kernel⟩

/-- Two EXCL_WRITEs that fail in one slot are counted as two (R168, notes/assumptions/40.md). -/
theorem test_two_exclusive_failures :
    let other : Entry := ⟨8, .waiting, some { fields .exclWrite none with thread := 2, column := 6 }, 990, 1⟩
    (claimPhase 0 (begun (memberOpen.withQueue [entry .exclWrite .waiting none, other]))).counters.exclusiveFailures = 2 := by
  decide +kernel

/-- The highest of three entries' candidates, the older of two equal ones. -/
theorem witness_ChosenCandidateIsHighest :
    let judged (age : Nat) : MemFields := { fields .read none with age := age, judged := some ⟨.read 7 3 5 1, true⟩ }
    let e (tag : Tag) (age : Nat) : Entry := ⟨tag, .waiting, some (judged age), 990, 0⟩
    pick none [e 1 2, e 2 4, e 3 4] = some ⟨.queue 1 2, .read 7 3 5 1, .ordinary, 20⟩ ∧ pick none [] = none := by decide +kernel

/-- The three next commands; a WRITE that a fence holds back, and the fenced entry's own retry, which it does not. -/
theorem witness_OwnCommandsPassMirrorCheck :
    let own := (fenced 2 1040 false memberOpen).withDataUnit { memberOpen.dataUnit with fencedEntry := some 9 }
    let may (retry : Bool) := eligible own.timing 1000 kept openBank own.mirror.fence retry (.write 7 3 5 1)
    closedBanks.openRow (fields .read none).bank = none ∧ openBank.openRow (fields .read none).bank = some 7 ∧
      (7 : RowNo) ≠ { fields .read none with row := 8 }.row ∧
      isFencedRetry own (entry .write .retryWait none) (fields .write none) = true ∧ may true = true ∧ may false = false := by
  decide +kernel

/-! ### Witnesses: the read-back -/

theorem witness_EqualReadBackIssues :
    let c := fromQueue (.read 7 3 5 1)
    let s := winning c (memberOpen.withQueue [entry .read .waiting none])
    s.work.ended = false ∧ s.work.claimTaken = true ∧ wonClaim s = some (claimOf memberOpen 0 c) ∧ c.source = .queue 0 9 ∧
      isColumn c.command = true ∧ findEntry 9 s = some (entry .read .waiting none) ∧
      (entry .read .waiting none).mem = some (fields .read none) := by decide +kernel

/-- An EXCL_READ with a write to its granule pending, with room in the table and with six other reservations; and an EXCL_WRITE
in WAITING and in RETRY_WAIT. -/
theorem witness_EqualReadBackIssues_exclusive :
    let others (n : Nat) : List Reservation := (List.range n).map fun k => ⟨BitVec.ofNat 4 (k + 2), 3, 7, 5, 900 + k⟩
    let r (t : ReservationTable) :=
      winning (fromQueue (.read 7 3 5 1)) ((memberOpen.withQueue [entry .exclRead .waiting none]).withTable t)
    let w (p : Phase) := winning (fromQueue (.write 7 3 5 1)) (memberOpen.withQueue [entry .exclWrite p none])
    (wonClaim (r ⟨[], none⟩)).isSome = true ∧ findEntry 9 (r ⟨[], none⟩) = some (entry .exclRead .waiting none) ∧
      (r ⟨[], some ⟨3, 7, 5, 5, 1001⟩⟩).table.pendingWrite (fields .exclRead none) 1000 = true ∧
      (r ⟨[], some ⟨3, 7, 5, 5, 1000⟩⟩).table.pendingWrite (fields .exclRead none) 1000 = false ∧
      ((r ⟨others 6, none⟩).table.reservations.filter fun x => decide (x.thread ≠ 1)).length = 6 ∧
      (wonClaim (w .waiting)).isSome = true ∧ findEntry 9 (w .waiting) = some (entry .exclWrite .waiting none) ∧
      findEntry 9 (w .retryWait) = some (entry .exclWrite .retryWait none) := by decide +kernel

/-- A CLOSE of the queue, and a REFRESH of the controller; no claim won, and none made; and the steps of a slot's end and the
observed commands at the start of a slot. -/
theorem witness_EqualReadBackIssues_other :
    let c := fromQueue (.close 7 3)
    let r : Candidate := ⟨.controller, .refresh 0, .maintenance, 60⟩
    wonClaim (winning c memberOpen) = some (claimOf memberOpen 0 c) ∧ isColumn c.command = false ∧
      wonClaim (winning r member) = some (claimOf member 0 r) ∧ isColumn r.command = false ∧ wonClaim member = none ∧
      member.work.ended = true ∧ (begun member).work.ended = false ∧ (begun member).work.claimTaken = false ∧
      (begun member).work.observed = none ∧ (begun member).work.readBack = none ∧ 10 ≤ (10 : BitVec 4).toNat ∧
      ActsAtEnd (.presenceRise 6) (reachEnd (begun member)) ∧ ActsAtEnd .commandErrorAlert (reachEnd (begun member)) := by
  unfold ActsAtEnd
  decide +kernel

/-- The slot of a won claim after a RESTART: the read-back was taken to be equal (notes/assumptions/45.md). -/
def restarted : State :=
  run [.restart 4] (winning (fromQueue (.read 7 3 5 1)) (memberOpen.withQueue [entry .read .waiting none]))

/-- The word read back, again; and a slot whose end took no read-back. -/
theorem witness_EqualReadBackIssues_late :
    restarted.work.ended = true ∧
      restarted.work.readBack = some (encodeCommand restarted.number (.read 7 3 5 1)) ∧
      member.work.ended = true ∧ member.work.presumed = false := by decide +kernel

/-- A RESTART in the slot of a won claim whose read-back nobody has sent finds the entry issued, and it finishes its data (R56,
R95, R138). -/
theorem test_restart_after_a_won_claim :
    (match exec (.restart 4) (winning (fromQueue (.read 7 3 5 1)) (memberOpen.withQueue [entry .read .waiting none])) with
      | .next t => t.queue.map Entry.phase | _ => []) = [.readIssued] := by decide +kernel

/-- A word of another station read back, from a MEMBER with an entry in WAITING and from a DRAINING station. -/
theorem witness_DifferentReadBackWithdraws :
    let c := fromQueue (.read 7 3 5 1)
    let s := winning c (memberOpen.withQueue [entry .read .waiting none])
    s.work.ended = false ∧ s.work.claimTaken = true ∧ wonClaim s = some (claimOf memberOpen 0 c) ∧
      encodeCommand 5 (.refresh 0) ≠ encodeCommand s.number c.command ∧ s.membership.state ≠ .draining ∧
      (∀ e ∈ s.queue, e.phase = .waiting) ∧
      wonClaim (winning c (station .draining none)) = some (claimOf (station .draining none) 0 c) := by decide +kernel

/-- A word of another station read back after a RESTART of the slot, of an entry's READ and of the controller's REFRESH. -/
theorem witness_DifferentReadBackWithdraws_late :
    let r : Candidate := ⟨.controller, .refresh 0, .maintenance, 60⟩
    let s := run [.restart 4] (winning r member)
    let w := encodeCommand 5 (.refresh 0)
    (restarted.work.ended = true ∧ restarted.work.presumed = true ∧ restarted.work.observed = none ∧
      restarted.work.claim.map Claim.candidate = some (fromQueue (.read 7 3 5 1)) ∧ restarted.work.readBack ≠ some w ∧
      (queueTags restarted).Nodup ∧ restarted.membership.state = .draining ∧
      (findEntry 9 restarted).map Entry.phase = some .readIssued ∧
      ((findEntry 9 restarted).bind Entry.mem).map MemFields.issueSlot = some (some 1000) ∧
      ((findEntry 9 restarted).bind Entry.mem).map MemFields.retryUsed = some false) ∧
      s.work.presumed = true ∧ s.work.claim.map Claim.candidate = some r ∧ s.work.readBack ≠ some w := by decide +kernel

/-- The same words at a station in WITHDRAWN. -/
theorem witness_DifferentReadBackWithdraws_withdrawn :
    let c := fromQueue (.read 7 3 5 1)
    let s := winning c (station .withdrawn none)
    let late := restarted.withMembership { restarted.membership with state := .withdrawn }
    s.membership.state = .withdrawn ∧ wonClaim s = some (claimOf (station .withdrawn none) 0 c) ∧ s.work.claimTaken = true ∧
      encodeCommand 5 (.refresh 0) ≠ encodeCommand s.number c.command ∧ late.membership.state = .withdrawn ∧
      late.work.presumed = true ∧ late.work.readBack ≠ some (encodeCommand 5 (.refresh 0)) := by decide +kernel

/-- RESTART, then the CLAIM_FAULT of its slot: the drain ends in WITHDRAWN and the entry is answered ABORTED (R59, R93, R139). The
other way round the drain ends in LISTENING (R59). -/
theorem test_restart_then_claim_fault :
    let w := encodeCommand 5 (.refresh 0)
    let t := run [.commandReadBack w] restarted
    let u := run [.commandReadBack w, .restart 4]
      (winning (fromQueue (.read 7 3 5 1)) (memberOpen.withQueue [entry .read .waiting none]))
    (t.membership.drainTarget, t.queue.length, t.port.joining.length, t.faults.first) =
        (some .withdrawn, 0, 2, some (.claimFault, 5)) ∧
      (u.membership.drainTarget, u.queue.length) = (some .listening, 0) := by decide +kernel

/-! ### Witnesses: observed commands -/

theorem witness_OpenCommandOpensBank :
    compares member = true ∧ member.work.arrived = false ∧ member.mirror.known = some closedBanks ∧
      member.mirror.kept = some kept ∧ (closedBanks.bank 3).opened = none ∧
      ReadyToObserve (.command 5 (.openRow 0xFFFF 3 7)) member ∧ Calm member :=
  ⟨by decide +kernel, by decide +kernel, rfl, rfl, by decide +kernel, ready_ended _ rfl, calm_empty rfl rfl⟩

theorem witness_CloseCommandClosesBank :
    compares memberOpen = true ∧ memberOpen.work.arrived = false ∧ memberOpen.mirror.known = some openBank ∧
      memberOpen.mirror.kept = some kept ∧ openBank.openRow 3 = some 7 ∧ (7 : CheckValue) = rowCheck 7 ∧
      ReadyToObserve (.command 5 (.close 7 3)) memberOpen ∧ Calm memberOpen ∧ (closedBanks.bank 3).opened = none :=
  ⟨by decide +kernel, by decide +kernel, rfl, rfl, by decide +kernel, by decide, ready_ended _ rfl,
    calm_empty rfl rfl, by decide +kernel⟩

theorem witness_ReadCommandTakesDataLines :
    compares memberOpen = true ∧ memberOpen.work.arrived = false ∧ memberOpen.mirror.known = some openBank ∧
      memberOpen.mirror.kept = some kept ∧ openBank.openRow 3 = some 7 ∧ (7 : CheckValue) = rowCheck 7 ∧
      ReadyToObserve (.command 5 (.read 7 3 5 4)) memberOpen ∧ Calm memberOpen :=
  ⟨by decide +kernel, by decide +kernel, rfl, rfl, by decide +kernel, by decide, ready_ended _ rfl,
    calm_empty rfl rfl⟩

/-- A WRITE that repeats the fence's own write and the last alerted write, and one that does not. -/
theorem witness_WriteCommandMovesRecords :
    let f := fenced 5 2000 false memberOpen
    let a := memberOpen.withDataUnit { memberOpen.dataUnit with lastAlerted := some ⟨5, 3, 7, 5, 4, 2000⟩ }
    compares memberOpen = true ∧ memberOpen.work.arrived = false ∧ memberOpen.mirror.known = some openBank ∧
      memberOpen.mirror.kept = some kept ∧ (openBank.bank 3).opened = some ⟨7, 900⟩ ∧ (7 : CheckValue) = rowCheck 7 ∧
      ReadyToObserve (.command 5 (.write 7 3 5 4)) memberOpen ∧ Calm memberOpen ∧ memberOpen.mirror.fence = none ∧
      f.mirror.fence = some ⟨5, 3, 7, 5, 1, 2000, false⟩ ∧ ReadyToObserve (.command 5 (.write 7 3 5 1)) f ∧
      a.dataUnit.lastAlerted = some ⟨5, 3, 7, 5, 4, 2000⟩ :=
  ⟨by decide +kernel, by decide +kernel, rfl, rfl, by decide +kernel, by decide, ready_ended _ rfl,
    calm_empty rfl rfl, rfl, rfl, ready_ended _ rfl, rfl⟩

/-- A doubted mirror in RESYNC and under the leave-doubt condition, and in DRAINING, where a sync point ends no doubt. -/
theorem witness_WriteCommandMovesRecords_doubted :
    let doubt := (station .leaving none).withMembership { (station .leaving none).membership with leaveDoubt := true }
    takesLane (station .resync none) = true ∧ (station .resync none).membership.state = .resync ∧
      (doubt.membership.state = .leaving ∧ doubt.membership.leaveDoubt = true) ∧
      (station .draining none).membership.state = .draining ∧ doubt.work.arrived = false ∧ doubt.work.doubted = none ∧
      doubt.mirror.known = none ∧ doubt.mirror.kept = some kept ∧ syncDigest (.write 7 3 5 4) = none ∧
      (syncDigest (.wake 1)).isSome = true ∧ ReadyToObserve (.command 5 (.write 7 3 5 4)) doubt ∧
      ReadyToObserve (.command 5 (.wake 1)) (station .draining none) :=
  ⟨by decide +kernel, rfl, ⟨rfl, rfl⟩, rfl, rfl, rfl, rfl, rfl, rfl, rfl, ready_ended _ rfl, ready_ended _ rfl⟩

/-- One open bank for the purposes REFRESH and QUIET; the purposes INIT and RECOVER ask nothing. -/
theorem witness_CloseAllCommandClosesEveryBank :
    memberOpen.membership.state = .member ∧ memberOpen.work.arrived = false ∧ memberOpen.mirror.known = some openBank ∧
      memberOpen.mirror.kept = some kept ∧ (1 : CheckValue).toNat = openBank.openCount ∧
      ReadyToObserve (.command 5 (.closeAll 1 .refresh 0x544B)) memberOpen ∧
      ReadyToObserve (.command 5 (.closeAll 0 .init 0)) memberOpen ∧ openBank.channel ≠ .initializing ∧ Calm memberOpen :=
  ⟨rfl, rfl, rfl, rfl, by decide +kernel, ready_ended _ rfl, ready_ended _ rfl, by decide +kernel, calm_empty rfl rfl⟩

theorem witness_RefreshCommandServesAccount :
    compares member = true ∧ member.work.arrived = false ∧ member.mirror.known = some closedBanks ∧
      member.mirror.kept = some kept ∧ (0 : CheckValue).toNat = closedBanks.openCount ∧
      ReadyToObserve (.command 5 (.refresh 0)) member ∧ Calm member :=
  ⟨by decide +kernel, by decide +kernel, rfl, rfl, by decide +kernel, ready_ended _ rfl, calm_empty rfl rfl⟩

theorem witness_SleepAndWakeCommands :
    member.membership.state = .member ∧ member.work.arrived = false ∧ member.mirror.known = some closedBanks ∧
      member.mirror.kept = some kept ∧ (0 : CheckValue).toNat = closedBanks.openCount ∧ member.controller.active = true ∧
      ReadyToObserve (.command 5 (.sleep 0)) member ∧ ReadyToObserve (.command 5 (.wake 0x544B)) member ∧ Calm member :=
  ⟨rfl, rfl, rfl, rfl, by decide +kernel, rfl, ready_ended _ rfl, ready_ended _ rfl, calm_empty rfl rfl⟩

/-- A MEMBER, a LEAVING station without the leave-doubt condition, and a LISTENING station. -/
theorem witness_ModeSetCommandDoubtsMirror :
    compares member = true ∧ compares (station .leaving (some closedBanks)) = true ∧ compares listening = true ∧
      member.work.arrived = false ∧ member.mirror.kept = some kept ∧ listening.mirror.kept = some kept ∧
      ReadyToObserve (.command 5 (.modeSet 0 5)) member ∧ ReadyToObserve (.command 5 (.modeSet 3 1)) listening ∧
      Calm member ∧ ∀ e ∈ member.queue, e.isWriteRetry = false :=
  ⟨by decide +kernel, by decide +kernel, by decide +kernel, rfl, rfl, rfl, ready_ended _ rfl, ready_ended _ rfl,
    calm_empty rfl rfl, by simp [member, station, State.reset]⟩

/-- A MEMBER, a LISTENING and an INITIALIZING station, the issuer of an undefined command being itself or another. -/
theorem witness_EmptyAndUndefinedCommands :
    takesLane member = true ∧ takesLane listening = true ∧ takesLane (station .initializing none) = true ∧
      ReadyToObserve .empty member ∧ ReadyToObserve .empty listening ∧ listening.work.silenceSettled = false ∧
      ReadyToObserve (.undefined 5) (station .initializing none) ∧ (5 : StationNo) ≠ (station .initializing none).number ∧
      Calm member ∧ QueueOpen member ∧ QueueUnjudged member ∧ member.membership.state ≠ .initializing :=
  ⟨by decide +kernel, by decide +kernel, by decide +kernel, ready_ended _ rfl, ready_ended _ rfl, rfl, ready_ended _ rfl,
    by decide +kernel, calm_empty rfl rfl, queue_open_empty rfl, (calm_empty rfl rfl).2.1, by decide +kernel⟩

/-- An OPEN of an open bank. -/
theorem witness_MirrorFaultEntersResync :
    memberOpen.membership.state = .member ∧ memberOpen.work.arrived = false ∧ memberOpen.work.faulted = false ∧
      memberOpen.work.doubted = none ∧ memberOpen.mirror.known = some openBank ∧
      openBank.mismatch (.openRow 0xFFFF 3 8) = true ∧ syncDigest (.openRow 0xFFFF 3 8) = none ∧
      memberOpen.work.attributed = none ∧ ReadyToObserve (.command 5 (.openRow 0xFFFF 3 8)) memberOpen :=
  ⟨rfl, rfl, rfl, rfl, rfl, by decide +kernel, by decide, rfl, ready_ended _ rfl⟩

/-- The same OPEN at a LEAVING and at a LISTENING station, and a CLOSE_ALL whose count of open banks is wrong. -/
theorem witness_MirrorFaultEntersResync_others :
    let leave := station .leaving (some openBank)
    let listen := station .listening (some openBank)
    leave.membership.state = .leaving ∧ leave.membership.leaveDoubt = false ∧ leave.mirror.known = some openBank ∧
      ReadyToObserve (.command 5 (.openRow 0xFFFF 3 8)) leave ∧ listen.membership.state = .listening ∧
      listen.mirror.known = some openBank ∧ ReadyToObserve (.command 5 (.openRow 0xFFFF 3 8)) listen ∧
      (2 : CheckValue).toNat ≠ openBank.openCount ∧ memberOpen.mirror.kept = some kept ∧
      ReadyToObserve (.command 5 (.closeAll 2 .refresh 0x544B)) memberOpen ∧
      ReadyToObserve (.command 5 (.closeAll 2 .quiet 0x544B)) leave :=
  ⟨rfl, rfl, rfl, ready_ended _ rfl, rfl, rfl, ready_ended _ rfl, by decide +kernel, rfl, ready_ended _ rfl, ready_ended _ rfl⟩

/-- The station's own digest and another, with the ready line sampled high and low. -/
theorem witness_SyncPointAtListeningStation :
    listening.membership.state = .listening ∧ listening.work.arrived = false ∧ listening.mirror.kept = some kept ∧
      syncDigest (.wake 0x544B) = some 0x544B ∧ syncDigest (.closeAll 0 .recover 1) = some 1 ∧
      listening.work.attributed = none ∧ ReadyToObserve (.command 5 (.wake 0x544B)) listening ∧
      ReadyToObserve (.command 5 (.closeAll 0 .recover 1)) listening ∧ (0x544B : Digest) = listening.settings.digest ∧
      (1 : Digest) ≠ listening.settings.digest ∧ listening.lines.readySample = true ∧
      ∀ e ∈ [entry .read .waiting none], e.phase = .waiting :=
  ⟨rfl, rfl, rfl, rfl, rfl, rfl, ready_ended _ rfl, ready_ended _ rfl, by decide +kernel, by decide +kernel, rfl,
    by decide +kernel⟩

theorem witness_SyncPointEndsDoubt :
    (station .resync none).membership.state = .resync ∧ (station .resync none).work.arrived = false ∧
      (station .resync none).work.doubted = none ∧ (station .resync none).mirror.known = none ∧
      (station .resync none).mirror.kept = some kept ∧ (syncDigest (.wake 1)).isSome = true ∧
      ReadyToObserve (.command 5 (.wake 1)) (station .resync none) ∧
      ReadyToObserve (.command 5 (.closeAll 3 .quiet 1)) (station .resync none) :=
  ⟨rfl, rfl, rfl, rfl, rfl, rfl, ready_ended _ rfl, ready_ended _ rfl⟩

/-- A station that initializes, at a step. -/
def initializing (st : InitStep) (m : Option KnownMirror) : State :=
  (station .initializing m).withMembership { (station .initializing m).membership with initStep := some st }

/-- The first step, the CLOSE_ALL and the last REFRESH; and a command of another station. -/
theorem witness_InitializationAdvances :
    (∀ st ∈ [InitStep.setReadLatency, .closeAll, .secondRefresh],
      (initializing st none).membership.state = .initializing ∧ (initializing st none).membership.initStep = some st ∧
        (initializing st none).work.arrived = false ∧ (initializing st none).mirror.kept.isSome = true ∧
        (initializing st none).work.attributed = none ∧ (initializing st none).work = endWork) ∧
      (5 : StationNo) ≠ (initializing .closeAll none).number := by decide +kernel

/-- Entries judged eligible and passed over: with its age at AGE_MAX and its guard count at GUARD less 1, and with age 0; and an
entry whose CLOSE the observed command serves. -/
theorem witness_PassedOverEntryAges :
    let old : MemFields := { fields .read none with age := 20, guardCount := 3, judged := some ⟨.read 7 3 5 1, true⟩ }
    let young : MemFields := { fields .read none with judged := some ⟨.close 7 3, true⟩ }
    let s := memberOpen.withQueue [⟨8, .waiting, some old, 990, 0⟩, ⟨9, .waiting, some young, 990, 1⟩]
    takesLane s = true ∧ s.work.attributed = none ∧ s.settings.ageMax = 20 ∧ s.settings.guardMax = 4 ∧
      (∀ e ∈ s.queue, e.phase.owing = true ∧ e.phase.answered = none ∧ e.mem.isSome = true) ∧ s.work = endWork ∧
      s.membership.state = .member ∧ s.mirror.known = some openBank ∧ openBank.mismatch (.close 7 3) = false ∧
      isModeSet (.close 7 3) = false := by decide +kernel

/-- A CLOSE of the bank serves the entry that needed it. -/
theorem witness_PassedOverEntryAges_served : Served (.close 7 3) (.close 7 3) ∧ ¬Served (.close 7 3) (.read 7 3 5 1) := by
  simp [Served]

/-! ### Witnesses: alerts -/

theorem witness_CommandErrorAlertDoubtsMirror :
    takesLane member = true ∧ member.work.commandAlert = false ∧ member.work.doubted = none ∧ member.work.observed = none ∧
      member.work.ended = true ∧ member.mirror.kept = some kept ∧
      (∀ e ∈ member.queue, writeIssuedIn (member.slot - 2) e = false) ∧ 2 ≤ memberOpen.slot ∧
      [entry .write .writeIssued (some 998)].find? (writeIssuedIn (memberOpen.slot - 2)) =
        some (entry .write .writeIssued (some 998)) ∧
      takesLane (station .leaving (some closedBanks)) = true ∧ takesLane (initializing .closeAll none) = true ∧
      takesLane listening = true ∧ takesLane (station .draining none) = true ∧
      takesLane ((station .leaving none).withMembership { (station .leaving none).membership with leaveDoubt := true }) = true :=
  ⟨by decide +kernel, rfl, rfl, rfl, rfl, rfl, by simp [member, station, State.reset], by decide +kernel,
    by decide +kernel, by decide +kernel, by decide +kernel, by decide +kernel, by decide +kernel, by decide +kernel⟩

/-- WRITEs of a present station and of an absent one, in the last and the first slot of the window, and one just outside it; and
the ends of the slots of two alerts attributed to other stations, one a member's that has observed its command phase. -/
theorem witness_WriteCheckAlertSetsFence :
    let s := attributing 5 991 false member
    let late := attributing 5 990 false member
    let close (i : StationNo) := member.withWork
      { endWork with attributed := some ⟨991, i, 3, 5, 1, 7, false⟩, observed := some .empty }
    takesLane s = true ∧ s.work.ended = true ∧ s.work.writeAlert = false ∧ s.work.replacedAttribution = none ∧
      s.dataUnit.attribution = some ⟨991, 5, 3, 5, 1, 7, false⟩ ∧ (991 < s.slot ∧ s.slot < 991 + s.timing.alertWindow) ∧
      (5 : StationNo) ≠ s.number ∧ QueueOpen s ∧ 990 + late.timing.alertWindow ≤ late.slot ∧
      holdsFence (close 5).membership.state = true ∧ (close 5).membership.state ≠ .leaving ∧
      (close 5).work.alertFailed = false ∧ (close 5).mirror.fence = none ∧ inRoster (close 5).membership.roster 5 = true ∧
      inRoster (close 6).membership.roster 6 = false ∧ holdsFence listening.membership.state = false ∧
      (close 5).pending = [] ∧ (close 5).work.observed.isSome = true ∧ (close 5).memory.alertLine = ⟨false, false⟩ ∧
      inRoster (close 5).membership.roster (close 5).number = true ∧ (close 5).lines.ready = false :=
  ⟨by decide +kernel, rfl, rfl, rfl, rfl, by decide +kernel, by decide +kernel, queue_open_empty rfl, by decide +kernel, rfl,
    by decide +kernel, rfl, rfl, by decide +kernel, by decide +kernel, rfl, rfl, rfl, rfl, by decide +kernel, rfl⟩

/-- The fence of an alert stands when a member's slot has ended (R180). -/
theorem test_alert_sets_fence :
    (match step (run [.writeCheckAlert] (attributing 5 991 false member)) with | .next t => t.mirror.fence | _ => none) =
      some ⟨5, 3, 7, 5, 1, 1040, false⟩ := by decide +kernel
/-- A station that leaves the slot DRAINING sets no fence and records nothing, its RESTART being taken after the alert (R180). -/
theorem test_alert_then_restart :
    (match step (run [.writeCheckAlert, .restart 4] (attributing 6 991 false member)) with
      | .next t => (t.mirror.fence, t.faults.first) | _ => (none, none)) = (none, none) := by decide +kernel
/-- A fall taken before the alert of its slot leaves no last alerted write (R172). -/
theorem test_fall_then_alert :
    (run [.presenceFall 5, .writeCheckAlert] (attributing 5 991 false member)).dataUnit.lastAlerted = none := by decide +kernel

/-- The station's own WRITE, at its first alert and after a retry; and at the slot's end, with its entry in WRITE_ISSUED at a
MEMBER and in RESYNC, and gone. -/
theorem witness_OwnAlertedWriteRetriesOnce :
    let e := entry .write .writeIssued (some 991)
    let again : Entry := { e with mem := some { fields .write (some 991) with retryUsed := true } }
    let s := attributing 2 991 false (memberOpen.withQueue [e])
    let r := attributing 2 991 true (memberOpen.withQueue [again])
    let at' (failed : Bool) (s : State) := s.withWork
      { endWork with attributed := some ⟨991, 2, 3, 5, 1, 7, false⟩, alertFailed := failed }
    retriesWrites s = true ∧ s.work.arrived = false ∧ s.work.ended = true ∧ s.work.writeAlert = false ∧
      s.work.replacedAttribution = none ∧ (991 < s.slot ∧ s.slot < 991 + s.timing.alertWindow) ∧ (2 : StationNo) = s.number ∧
      s.queue.find? (writeIssuedIn 991) = some e ∧ r.queue.find? (writeIssuedIn 991) = some again ∧ (queueTags s).Nodup ∧
      QueueOpen s ∧ (at' true member).work.alertFailed = true ∧ member.queue.find? (writeIssuedIn 991) = none ∧
      holdsFence (at' true member).membership.state = true ∧ inRoster member.membership.roster member.number = true ∧
      (at' false s).mirror.fence = none ∧ (∀ x ∈ s.queue, x.retriedIn s.slot = false) ∧
      retriesWrites (station .resync none) = false ∧ (station .resync none).mirror.fence = none :=
  ⟨by decide +kernel, rfl, rfl, rfl, rfl, by decide +kernel, by decide +kernel, by decide +kernel, by decide +kernel,
    by decide +kernel, by unfold QueueOpen; decide +kernel, rfl, rfl, rfl, by decide +kernel, rfl, by decide +kernel, rfl, rfl⟩

/-! ### Witnesses: lines -/

/-- Station 6 rises in a quiet slot, in the slot of a REFRESH, and in the slot of a fall of the duty station. -/
theorem witness_PresenceRiseJoinsRoster :
    let s := member.withWork { endWork with observed := some (.command 5 (.refresh 0)) }
    let f := member.withWork { endWork with dutyFell := some 5 }
    f.work.dutyFell = some 5 ∧ f.work.observed = none ∧ f.controller.duty ≠ none ∧
      inRoster f.membership.roster 6 = false ∧ member.work.dutyFell = none ∧ member.work.ended = true ∧
    member.membership.state ≠ .off ∧ inRoster member.membership.roster 6 = false ∧ member.work.observed = none ∧
      s.work.observed = some (.command 5 (.refresh 0)) ∧
      keepsDuty s.membership.state = true ∧ inRoster member.membership.roster 2 = true := by decide +kernel

/-- Station 5, which has the duty, falls and station 6 rises in one slot: the pointer is on 6, the next number after 5 in the
roster that the samples leave (R149). -/
theorem test_duty_of_a_slots_samples :
    (takeRise 6 (takeFall 5 member)).controller.duty = some 6 ∧ (takeFall 5 member).controller.duty ≠ some 6 := by
  decide +kernel

/-- The duty station falls with its fence standing, final and not, and with its last alerted write held. -/
theorem witness_PresenceFallLeavesRoster :
    let s := fenced 5 2000 false member
    s.membership.state ≠ .off ∧ s.work.ended = true ∧ inRoster s.membership.roster 5 = true ∧
      (∀ i check, s.work.observed ≠ some (.command i (.refresh check))) ∧ s.controller.duty = some 5 ∧
      s.work.attributed = none ∧
      s.mirror.fence = some ⟨5, 3, 7, 5, 1, 2000, false⟩ ∧
      (fenced 5 2000 true member).mirror.fence = some ⟨5, 3, 7, 5, 1, 2000, true⟩ :=
  ⟨by decide +kernel, rfl, by decide +kernel, by simp [fenced, member, station, endWork, SlotWork.fresh], rfl, rfl, rfl, rfl⟩

/-- A LISTENING station with a known mirror, an INITIALIZING station, and a MEMBER. -/
theorem witness_ReadyLineMakesMember :
    (station .listening (some closedBanks)).membership.state = .listening ∧
      (station .listening (some closedBanks)).mirror.known.isSome = true ∧
      (initializing .closeAll none).membership.state = .initializing ∧ member.membership.state ≠ .initializing ∧
      member.membership.state ≠ .off ∧ member.work.ended = true ∧ member.mirror.known = some closedBanks := by decide +kernel

/-- A LISTENING station whose known mirror reads SLEEPING, and the same after the ready line's rise: the account has started. -/
def wakeful : State := station .listening (some { closedBanks with channel := .sleeping })
theorem witness_ReadyLineMakesMember_account :
    let t := run [.readyLineChange true] wakeful
    t.pending = [] ∧ t.membership.state ≠ .off ∧ t.work.accountStarted = true ∧ t.controller.active = true := by decide +kernel

/-- The timer of the account that starts is stopped in sleep, and counts where an alert of the slot leaves the mirror doubted or a
CLOSE_ALL(INIT) leaves it awake (R45, R145). -/
theorem test_account_starts_by_the_state_left :
    let counting (cs : List Instr) := match step (run (.readyLineChange true :: cs) wakeful) with
      | .next t => (t.controller.active, t.controller.counting)
      | _ => (false, false)
    counting [] = (true, false) ∧ counting [.commandErrorAlert] = (true, true) ∧
      counting [.closeAllCommand 5 0 .init 0x544B] = (true, true) := by decide +kernel

/-- A known mirror in a slot with a CLOSE_ALL(QUIET) observed and in one without, and a doubted one. -/
theorem witness_QuietLineOwnsQuietHold :
    let s := member.withWork { endWork with observed := some (.command 5 (.closeAll 0 .quiet 0x544B)) }
    s.membership.state ≠ .off ∧ s.work.ended = true ∧ s.mirror.known = some closedBanks ∧
      s.work.observed = some (.command 5 (.closeAll 0 .quiet 0x544B)) ∧ member.work.observed = none ∧
      listening.mirror.known = none := by decide +kernel

/-! ### Witnesses: expiries -/

/-- LISTEN_WAIT silent slots, exactly, at the lowest present station. -/
theorem witness_ListenWaitBeginsInitialization :
    let s := (listening.withMembership { listening.membership with silence := 4096 }).withLines
      { listening.lines with readySample := false }
    s.membership.state = .listening ∧ s.work.ended = true ∧ s.settings.listenWait ≤ s.membership.silence ∧ s.lines.readySample = false ∧
      inRoster s.membership.roster s.number = true ∧
      ∀ n : StationNo, n < s.number → inRoster s.membership.roster n = false := by decide +kernel

/-- The last slot of a period at debt 6 and at debt 7, and the slot before it. -/
theorem witness_PeriodExpiryRaisesDebt :
    let s (count debt : Nat) := member.withController { member.controller with periodCount := count, debt := debt }
    (s 1559 6).controller.active = true ∧ (s 1559 6).controller.counting = true ∧ (s 1559 6).work.periodSettled = false ∧
      (s 1559 6).work.ended = true ∧
      (s 1559 6).timing.refreshPeriod ≤ (s 1559 6).controller.periodCount + 1 ∧ (s 1559 6).controller.debt < 7 ∧
      (s 1559 7).controller.debt = 7 ∧ (s 1558 7).controller.periodCount + 1 < (s 1558 7).timing.refreshPeriod := by
  decide +kernel

/-- The idle count one short of IDLE_WAIT. -/
theorem witness_IdleWaitCastsVote :
    member.membership.state = .member ∧ member.queue = [] ∧ member.work.ended = true ∧ member.work.idleSettled = false ∧
      member.settings.idleWait ≤ 65535 ∧ member.settings.idleWait ≤ member.controller.idleCount + 1 := by decide +kernel

/-! ### Witnesses: data -/

/-- The only burst of a READ of one burst, and the first of two; a burst that passes and one that does not; after a retry, in a
DRAINING station, and for an EXCL_READ; and a slot in which the station captures nothing. -/
theorem witness_ReadBurstCaptureJudgesRead :
    let e := entry .read .readIssued (some 995)
    let two : Entry := { e with mem := some { fields .read (some 995) with bursts := 2 } }
    let again : Entry := { e with mem := some { fields .exclRead (some 995) with retryUsed := true } }
    let s := memberOpen.withQueue [e]
    s.work.ended = true ∧ s.work.captured = false ∧ s.work.peerBurst = none ∧
      captureOf s = some (e, fields .read (some 995), 0) ∧ (queueTags s).Nodup ∧ QueueOpen s ∧
      (fields .read none).bursts.toNat = 0 + 1 ∧ burstCheck zeroBurst = 0 ∧ burstCheck zeroBurst ≠ 0xFF ∧
      captureOf (memberOpen.withQueue [two]) = some (two, { fields .read (some 995) with bursts := 2 }, 0) ∧
      s.membership.state ≠ .draining ∧
      captureOf (memberOpen.withQueue [again]) = some (again, { fields .exclRead (some 995) with retryUsed := true }, 0) ∧
      captureOf ((station .draining none).withQueue [e]) = some (e, fields .read (some 995), 0) ∧ captureOf member = none :=
  ⟨rfl, rfl, rfl, by decide +kernel, by decide +kernel, by unfold QueueOpen; decide +kernel, by decide, by decide +kernel,
    by decide +kernel, by decide +kernel, by decide +kernel, by decide +kernel, by decide +kernel, by decide +kernel⟩

/-- A peer's burst, brought by a capture step in the peer's data slot, is stored by its mask (R5, R19). -/
theorem test_peer_burst_is_stored :
    let m := { ChannelMemory.powerUp with
      retaining := true, now := 1000, schedule := [⟨1000, .write, 5, none, true, false⟩] }
    let s := run [.readBurstCapture ⟨zeroBurst, 1⟩ 0] (member.withMemory m)
    (match step s with | .next t => (readByte t.memory.contents 320, readByte t.memory.contents 321) | _ => (none, none)) =
      (some 0, none) := by decide +kernel

/-- What the lines carry in a slot that this station captures is there for the memory too, in its own data slot (R5, R19). -/
theorem test_captured_burst_is_stored :
    let m := { ChannelMemory.powerUp with
      retaining := true, now := 1000, schedule := [⟨1000, .write, 5, none, true, false⟩] }
    let s := run [.readBurstCapture ⟨zeroBurst, 1⟩ 0]
      ((memberOpen.withQueue [entry .read .readIssued (some 995)]).withMemory m)
    (s.queue.length, match step s with | .next t => readByte t.memory.contents 320 | _ => none) = (0, some 0) := by
  decide +kernel

theorem witness_WriteBurstDriveDrivesBurst :
    let e := entry .write .writeIssued (some 996)
    let s := memberOpen.withQueue ([] ++ e :: [])
    e.phase = .writeIssued ∧ e.mem = some (fields .write (some 996)) ∧ (fields .write (some 996)).issueSlot = some 996 ∧
      s.slot = 996 + s.timing.writeLatency + 0 ∧ 0 < (fields .write (some 996)).bursts.toNat ∧
      (fields .write (some 996)).writeData[0]? = some ⟨zeroBurst, BitVec.allOnes 64⟩ ∧ s.dataUnit.driving = none := by
  decide +kernel

/-- A WRITE and an EXCL_WRITE in the first slot after their windows. -/
theorem witness_CleanWindowRetiresWrite :
    (∀ k ∈ [MemKind.write, .exclWrite],
      let e := entry k .writeIssued (some 990)
      let s := memberOpen.withQueue [e]
      s.work.ended = true ∧ e ∈ s.queue ∧ e.phase = .writeIssued ∧ e.mem = some (fields k (some 990)) ∧ 990 + s.timing.alertWindow ≤ s.slot ∧
        (queueTags s).Nodup ∧ (∀ x ∈ s.queue, windowExpired s.timing.alertWindow s.slot x = true → x = e) ∧
        ∀ x ∈ s.queue, x.phase.answered = none ∧ x.mem.isSome = true) := by decide +kernel

/-- A FENCE behind such a WRITE, alone with it and behind an older READ as well. -/
theorem witness_CleanWindowRetiresWrite_fence :
    let e := entry .write .writeIssued (some 990)
    let f : Entry := ⟨4, .waiting, none, 991, 2⟩
    let older : Entry := { entry .read .waiting none with tag := 8 }
    memberOpen.work.ended = true ∧ e.mem = some (fields .write (some 990)) ∧
      windowExpired memberOpen.timing.alertWindow memberOpen.slot e = true ∧
      (∀ x ∈ [older], windowExpired memberOpen.timing.alertWindow memberOpen.slot x = false) ∧
      (∀ x ∈ [older], x.phase.answered = none ∧ x.mem.isSome = true) ∧ f.mem = none ∧ f.phase = .waiting ∧
      f.joined < memberOpen.slot := by decide +kernel

/-- A peer's fence, final and not, and this station's with its entry in RETRY_WAIT, each at its limit slot; and a fence one
slot short of its limit. -/
theorem witness_FenceLimitRemovesFence :
    let own := (fenced 2 1000 false (memberOpen.withQueue [entry .write .retryWait none])).withDataUnit
      { memberOpen.dataUnit with fencedEntry := some 9 }
    NothingExpires (fenced 5 1001 false member) ∧ (fenced 5 1000 true member).mirror.fence = some ⟨5, 3, 7, 5, 1, 1000, true⟩ ∧
      1000 ≤ (fenced 5 1000 true member).slot ∧ (5 : StationNo) ≠ member.number ∧
      own.mirror.fence = some ⟨2, 3, 7, 5, 1, 1000, false⟩ ∧ (2 : StationNo) = own.number ∧
      own.dataUnit.fencedEntry = some (9 : Tag) ∧
      own.queue.find? (fun x => decide (x.tag = 9)) = some (entry .write .retryWait none) :=
  ⟨by simp [NothingExpires, fenced, member, station, State.reset], rfl, by decide +kernel, by decide +kernel, rfl,
    by decide +kernel, rfl, by decide +kernel⟩

/-! ### Witnesses: ends -/

/-- A station that drains towards a target. -/
def draining (t : DrainTarget) : State :=
  (station .draining none).withMembership { (station .draining none).membership with drainTarget := some t }

/-- Both targets, with the presence line driven, and released with the number in use; a record that fails; and a leave. -/
theorem witness_DrainAndLeaveEnd :
    let released := (draining .listening).withLines { (draining .listening).lines with presence := false }
    (draining .withdrawn).membership.state = .draining ∧ (draining .withdrawn).queue = [] ∧
      (draining .withdrawn).membership.drainTarget = some .withdrawn ∧
      (draining .listening).membership.drainTarget = some .listening ∧
      (draining .listening).loader.record = some record ∧ judgeRecord record = none ∧
      (draining .listening).lines.presence = true ∧ released.lines.presence = false ∧
      inRoster released.membership.roster released.number = true ∧ judgeRecord (record.set 43 0) = some 43 ∧
      (draining .listening).loader.settings = some board ∧
      (station .leaving (some closedBanks)).membership.state = .leaving ∧ (draining .withdrawn).work.ended = true := by
  decide +kernel

/-! ### Witnesses: the client port -/

theorem port_ready :
    PortReady member ∧ PortReady loading ∧ PortReady (station .detached none) ∧ PortReady memberOpen := by
  simp [PortReady, PortOpen, member, memberOpen, loading, station, State.reset, endWork, SlotWork.fresh]

/-- A READ of the last column of a row and a WRITE of one burst at the last granule of window 0, at a MEMBER that holds eight of
the WRITE's nine words. -/
theorem witness_AcceptedRequestJoinsQueue :
    let p : PartialWrite := ⟨false, 3, 1, 1, false, 0x003FFFC0, List.replicate 8 0⟩
    PortReady member ∧ Accepted member .read 3 1 0x003FFFC0 ∧ Accepted member p.kind p.tag p.bursts p.address ∧
      PortReady (member.withPort { member.port with inProgress := some p }) ∧ p.words.length + 1 = 9 * p.bursts.toNat ∧
      Admitting member.membership.state ∧ (3 : Tag) ∉ queueTags member ∧ member.queue.length < 16 ∧ member.pending = [] ∧
      (member.withQueue [⟨4, .waiting, none, 1000, 0⟩]).queue = [⟨4, .waiting, none, 1000, 0⟩] := by
  have hw : (⟨0, 63 * 65536 + 65535, 3⟩ : Window) ∈ member.settings.windows := by decide +kernel
  have ha : Admitting member.membership.state := by unfold Admitting; decide +kernel
  refine ⟨port_ready.1, ⟨ha, by decide +kernel, by decide +kernel, by decide, by unfold RangeOk; decide, ⟨_, hw, ?_⟩⟩,
    ⟨ha, by decide +kernel, by decide +kernel, by decide, by unfold RangeOk; decide, ⟨_, hw, ?_⟩⟩, port_ready.1, by decide, ha,
    by decide +kernel, by decide +kernel, rfl, rfl⟩ <;> exact ⟨by decide, by decide, by decide, by decide⟩

/-- Each reason: before the record, after leaving, a tag in use, a full queue, an offset of 1, no burst, two exclusive bursts, and a
write to the read-only window with its last word; and a port that takes nothing. -/
theorem witness_RefusedRequestIsAnswered :
    let inUse := memberOpen.withQueue [entry .read .waiting none]
    let full := memberOpen.withQueue (List.replicate 16 (entry .read .waiting none))
    let p : PartialWrite := ⟨false, 3, 1, 1, false, 0x3FFFFFC0, List.replicate 8 0⟩
    PortReady loading ∧ Refused loading .read 3 1 0 .starting ∧ Refused (station .detached none) .read 3 1 0 .notMember ∧
      RefusedFirst inUse 9 .tagInUse ∧ RefusedFirst full 3 .full ∧ Refused member .read 3 1 1 .align ∧
      Refused member .write 3 0 0 .range ∧ Refused member .exclRead 3 2 0 .range ∧
      Refused member p.kind p.tag p.bursts p.address .access ∧ p.words.length + 1 = 9 * p.bursts.toNat ∧
      ¬PortOpen (member.withWork { endWork with positions := 8 }) := by
  have hw : ∀ w ∈ member.settings.windows, ¬(16777215 ≤ w.limit ∧ w.rights &&& 2 = 2) := by decide +kernel
  have hm : Admitting member.membership.state ∧ (3 : Tag) ∉ queueTags member ∧ member.queue.length < 16 := by
    unfold Admitting; decide +kernel
  refine ⟨port_ready.2.1, .inl (.inl ⟨.inr rfl, rfl⟩), .inl (.inr (.inl ⟨.inr (.inr (.inl rfl)), rfl⟩)),
    .inr (.inr ⟨.inr (.inr (.inl rfl)), .inl ⟨by decide +kernel, rfl⟩⟩),
    .inr (.inr ⟨.inr (.inr (.inl rfl)), .inr ⟨by decide +kernel, by decide +kernel, rfl⟩⟩),
    .inr ⟨hm.1, hm.2.1, hm.2.2, .inl ⟨by decide, rfl⟩⟩,
    .inr ⟨hm.1, hm.2.1, hm.2.2, .inr ⟨by decide, .inl ⟨by unfold RangeOk; decide, rfl⟩⟩⟩,
    .inr ⟨hm.1, hm.2.1, hm.2.2, .inr ⟨by decide, .inl ⟨by unfold RangeOk; decide, rfl⟩⟩⟩,
    .inr ⟨hm.1, hm.2.1, hm.2.2, .inr ⟨by decide, .inr ⟨by unfold RangeOk; decide, ?_, rfl⟩⟩⟩, by decide, by simp [PortOpen]⟩
  rintro ⟨w, m, -, h, -, r⟩
  exact hw w m ⟨h, r (by decide)⟩

/-- Seven words that fill the slot's positions, a word with no request in progress, and the eighth word of nine. -/
theorem witness_DataWordsCompleteRequest :
    let s := member.withPort
      { member.port with inProgress := some ⟨false, 3, 1, 1, false, 0, List.replicate 7 0⟩ }
    PortReady member ∧ member.work.positions + 1 + (List.replicate 7 (0 : PortWord)).length = 8 ∧
      (List.replicate 7 (0 : PortWord)).length < 9 * (1 : BurstCount).toNat ∧ member.port.inProgress = none ∧
      PortReady s ∧ (List.replicate 7 (0 : PortWord)).length + 1 < 9 * (1 : BurstCount).toNat ∧
      ¬PortOpen (member.withWork { endWork with positions := 8 }) :=
  ⟨port_ready.1, by decide +kernel, by decide, rfl, port_ready.1, by decide, by simp [PortOpen]⟩

/-- A WRITE of one burst takes ten positions, the last two in the next slot (R186). -/
theorem test_write_spans_two_slots :
    let s := run [.writeRequest 3 1 1 false 0 (List.replicate 9 0)] listening
    (s.slot, s.work.positions, s.queue.length) = (1001, 2, 1) := by decide +kernel

theorem witness_QuietPermitSetsPermission :
    PortReady loading ∧ loading.membership.state = .loading ∧ PortReady member ∧ member.membership.state ≠ .loading :=
  ⟨port_ready.2.1, rfl, port_ready.1, by decide +kernel⟩

/-- A MEMBER; a DETACHED station whose number is free, and one whose number is in use. -/
theorem witness_LeaveAndJoinChangeState :
    let free := (station .detached none).withMembership { (station .detached none).membership with roster := 0x20 }
    PortReady member ∧ member.membership.state = .member ∧ PortReady free ∧ free.membership.state = .detached ∧
      inRoster free.membership.roster free.number = false ∧
      inRoster (station .detached none).membership.roster (station .detached none).number = true :=
  ⟨port_ready.1, rfl, port_ready.2.2.1, rfl, by decide +kernel, by decide +kernel⟩

theorem witness_RestartDrainsToListening :
    PortReady loading ∧ loading.membership.state = .loading ∧ PortReady (draining .withdrawn) ∧
      (draining .withdrawn).membership.state = .draining ∧ PortReady member ∧ member.membership.state ≠ .off ∧
      member.membership.state ≠ .loading ∧ member.membership.state ≠ .draining ∧
      ∀ e ∈ [entry .read .waiting none], e.phase = .waiting :=
  ⟨port_ready.2.1, rfl, port_ready.2.2.1, rfl, port_ready.1, by decide +kernel, by decide +kernel, by decide +kernel,
    by decide +kernel⟩

theorem witness_ReportAndClear :
    let s := member.withPort { member.port with joining := [.report 4] }
    PortReady member ∧ s.pending = [] ∧ s.membership.state ≠ .off ∧ .report 4 ∈ s.port.joining ∧ member.faults.first = none :=
  ⟨port_ready.1, rfl, by decide +kernel, by decide +kernel, rfl⟩

/-- No response; a response that ends in this slot with its eighth word, and one with a word more. -/
theorem witness_ResponseSendDrainsOldest :
    let r (n : Nat) : Response := ⟨.retired .ok, 0, 3, 1, List.replicate n 0⟩
    member.work.responded = false ∧ member.port.responses = [] ∧
      (member.withPort { member.port with responses := [r 7] }).port.responses = r 7 :: [] ∧
      (r 7).data.length + 1 ≤ member.port.sent + 8 ∧ member.port.sent + 8 < (r 8).data.length + 1 := by decide +kernel

/-! ### Witnesses: reset and loading -/

theorem witness_ResetAndRelease : State.reset.membership.state = .off ∧ member.membership.state ≠ .off := by decide +kernel

/-- The number of the loading station is free, and is in use; and a station with slots of the read to come. -/
theorem witness_GoodRecordIsLoaded :
    let used := loading.withMembership { loading.membership with roster := 0x24 }
    loading.membership.state = .loading ∧ 719 ≤ loading.slot ∧ recordOfBits (bitsOf record) = record ∧
      judgeRecord record = none ∧ loading.controller.active = false ∧
      inRoster loading.membership.roster loading.number = false ∧ used.membership.state = .loading ∧
      inRoster used.membership.roster used.number = true ∧ 1 < recordField record 22 ∧ (43 < 44 ∧ 15 < 16) ∧
      (loading.withSlot 718).slot < 719 := by decide +kernel

theorem witness_BadRecordWithdraws :
    loading.membership.state = .loading ∧ 719 ≤ loading.slot ∧ loading.controller.active = false ∧
      loading.work.arrived = false ∧ recordOfBits (bitsOf (record.set 43 0)) = record.set 43 0 ∧
      judgeRecord (record.set 43 0) = some 43 ∧ recordField (record.set 0 2) 0 ≠ 1 ∧ recordField (record.set 43 0) 0 = 1 ∧
      ((record.set 43 0).toList.map BitVec.toNat).sum % 65536 ≠ 0 ∧ member.membership.state ≠ .loading := by decide +kernel

/-- A record with word 43 made right. -/
def mended (r : Record) : Record :=
  r.set 43 (BitVec.ofNat 16 (65536 - ((r.toList.take 43).map BitVec.toNat).sum % 65536))

/-- Each test fails in some record of the right format and check: word 22 above its range, window 0's base, limit and rights, and
the four relations. -/
theorem witness_BadRecordWithdraws_details :
    let r (k v : Nat) (h : k < 44) : Record := mended (record.set k (BitVec.ofNat 16 v))
    let fails (r : Record) (d : Nat) : Bool :=
      decide (recordField r 0 = 1 ∧ (r.toList.map BitVec.toNat).sum % 65536 = 0 ∧ judgeRecord r = some d)
    fails (r 1 0 (by decide)) 1 ∧ fails (r 22 5 (by decide)) 22 ∧ fails (r 23 256 (by decide)) 23 ∧
      fails (r 25 256 (by decide)) 25 ∧ fails (r 27 4 (by decide)) 27 ∧ fails (r 10 8 (by decide)) 10 ∧
      fails (r 11 9 (by decide)) 11 ∧ fails (mended ((record.set 12 100).set 16 100)) 16 ∧ fails (r 30 63 (by decide)) 30 := by decide +kernel

/-! ### Witnesses: the channel memory -/

/-- An OPEN that the memory accepts and a CLOSE that it refuses; a memory with no data yet and a read latency of 2, and an open
bank. -/
theorem witness_MemoryTakesObservedCommand :
    let m := { ChannelMemory.powerUp with readLatency := 2, writeLatency := 1 }
    ReadyToObserve (.command 5 (.openRow 0xFFFF 3 7)) member ∧ member.memory.accepts (.openRow 0xFFFF 3 7) = true ∧
      ReadyToObserve (.command 5 (.close 7 3)) member ∧ member.memory.accepts (.close 7 3) = false ∧
      1 ≤ m.readLatency.toNat ∧ 1 ≤ m.writeLatency.toNat ∧ Purpose.quiet ≠ .init ∧
      ((m.effect false (.openRow 0xFFFF 3 7)).bank 3).row = some 7 :=
  ⟨ready_ended _ rfl, by decide +kernel, ready_ended _ rfl, by decide +kernel, by decide, by decide, by decide,
    by decide +kernel⟩

/-- A retaining memory, a burst that passes and one that does not, in the last data slot and before it. -/
theorem witness_ReceivedBurstIsStored :
    let m := { ChannelMemory.powerUp with retaining := true, checkEnable := true }
    let o (last : Bool) : OwnedSlot := ⟨0, .write, 5, none, last, true⟩
    m.retaining = true ∧ burstCheck zeroBurst = 0 ∧ burstCheck zeroBurst ≠ 0xFF ∧ m.writeFailed = false ∧
      m.asleep = false ∧ m.gapSettled = false ∧ m.refreshGap + 1 ≤ m.timing.retentionLimit ∧
      { m with refreshGap := m.timing.retentionLimit }.asleep = false ∧
      m.checkEnable = true ∧ (o true).last = true ∧ (o false).last = false ∧
      (BitVec.allOnes 64).getLsbD 63 = true := by decide +kernel

/-- A memory that drives a READ's burst, one that receives a WRITE's with a READ's to come, and one with no data slot. -/
theorem witness_ReceivedBurstIsStored_slots :
    let drives := { ChannelMemory.powerUp with schedule := [⟨0, .read, 5, some zeroBurst, true, false⟩] }
    let takes := { ChannelMemory.powerUp with
      gapSettled := true, schedule := [⟨0, .write, 5, none, true, true⟩, ⟨2, .read, 5, none, true, true⟩] }
    drives.current = some ⟨0, .read, 5, some zeroBurst, true, false⟩ ∧
      takes.current = some ⟨0, .write, 5, none, true, true⟩ ∧ takes.gapSettled = true ∧
      ⟨2, .read, 5, none, true, true⟩ ∈ takes.schedule ∧ takes.now < 2 ∧ ChannelMemory.powerUp.current = none ∧
      contentsOk ChannelMemory.powerUp.contents = true := by decide +kernel

/-- A WRITE whose first burst fails and whose last passes raises WRITE_CHECK (R20). -/
theorem test_earlier_burst_failed :
    let m := { ChannelMemory.powerUp with retaining := true, checkEnable := true }
    ((m.receive (some ⟨zeroBurst, 0, 1⟩) ⟨0, .write, 5, none, false, true⟩).receive (some ⟨zeroBurst, 0, 0⟩)
      ⟨0, .write, 6, none, true, true⟩).writeAlerts = [1] := by decide +kernel

/-! ### Witnesses: invariants -/

theorem witness_LimitsAreKept : WithinLimits State.reset := by
  simp [WithinLimits, State.reset, queueTags, reservedThreads]

theorem witness_MemoryFormIsKept : Memory.wf State.reset := rfl

theorem witness_ResponseRoomIsKept : ResponseRoom member := by
  simp [ResponseRoom, member, station, State.reset, owedResponses, endWork, SlotWork.fresh]

theorem witness_MirrorTrustIsKept : MirrorTrust member := by
  simp [MirrorTrust, member, station, State.reset, StateFields, RecordKept, arrivedState, refreshStep, doubtedState]

theorem witness_HoldingsFollowState : HeldByState member := by
  simp [HeldByState, member, station, State.reset, emptyQueueState, keepsDuty, closedBanks]

/-- A step is answered with a next state. -/
theorem witness_step_is_next : (match step member with | .next _ => true | _ => false) = true := by decide +kernel

/-! ### Steps the manual works out -/

/-- A member one slot short of its period, with a debt. -/
def due (debt : Nat) : State :=
  member.withController { member.controller with periodCount := 1559, debt := debt }

/-- Expiry and REFRESH in one slot with debt 7 (R147): expiry first records the overrun and leaves 6. -/
theorem test_expiry_then_refresh :
    (run [.periodExpiry, .refreshCommand 5 0] (due 7)).controller.debt = 6 ∧
      (run [.periodExpiry, .refreshCommand 5 0] (due 7)).faults.first = some (.refreshOverrun, 5) := by decide +kernel
/-- REFRESH first leaves 7 and records nothing (R147). -/
theorem test_refresh_then_expiry :
    (run [.refreshCommand 5 0, .periodExpiry] (due 7)).controller.debt = 7 ∧
      (run [.refreshCommand 5 0, .periodExpiry] (due 7)).faults.first = none := by decide +kernel
/-- With debt 0: 0 with the expiry first, 1 with the REFRESH first (R147). -/
theorem test_refresh_at_debt_0 :
    (run [.periodExpiry, .refreshCommand 5 0] (due 0)).controller.debt = 0 ∧
      (run [.refreshCommand 5 0, .periodExpiry] (due 0)).controller.debt = 1 := by decide +kernel
/-- A SLEEP taken first leaves no expiry (R147). -/
theorem test_sleep_then_expiry :
    (run [.sleepCommand 5 0, .periodExpiry] (due 7)).controller.debt = 0 ∧
      (run [.sleepCommand 5 0, .periodExpiry] (due 7)).faults.first = none := by decide +kernel
/-- CLOSE_ALL(QUIET) sets the quiet hold with the line high, and the line's fall removes it in either order (R71). -/
theorem test_quiet_hold_and_the_line :
    ((run [.closeAllCommand 5 0 .quiet 0x544B] member).mirror.known.map KnownMirror.quietHold = some true) ∧
      ((run [.closeAllCommand 5 0 .quiet 0x544B, .quietLineChange false] member).mirror.known.map KnownMirror.quietHold =
        some false) ∧
      (run [.quietLineChange false, .closeAllCommand 5 0 .quiet 0x544B] member).mirror.known.map KnownMirror.quietHold =
        some false := by decide +kernel
/-- The eight requests of section 5.7's example, in their order, eight words a slot, at a station that admits and issues nothing. -/
def example57 : State :=
  run [.writeRequest 22 1 3 false 0x0A053F80 (List.replicate 27 0), .exclReadRequest 23 1 1 0x1312D000]
    (endSlot (run [.readRequest 4 1 2 false 0x0A053C40, .writeRequest 9 1 1 false 0x0A053C80 (List.replicate 9 0),
      .readRequest 4 1 1 false 0x0A054000, .writeRequest 12 1 1 false 0x0A053C90 (List.replicate 9 0), .fence 20,
      .readRequest 21 1 1 false 0x1000] listening))
/-- The four accepted entries with their bank, row and column, and the four refusals (section 5.7). -/
theorem test_example57_admission :
    (example57.queue.map fun e => (e.tag.toNat, e.mem.map fun m => (m.bank.toNat, m.row.toNat, m.column.toNat))) =
        [(4, some (7, 5130, 17)), (9, some (7, 5130, 18)), (20, none), (21, some (2, 0, 0))] ∧
      example57.port.responses ++ example57.port.joining.map (joinedResponse example57) =
        [⟨.refused .tagInUse, 0, 4, 1, []⟩, ⟨.refused .align, 1, 12, 1, []⟩, ⟨.refused .range, 1, 22, 1, []⟩,
          ⟨.refused .access, 2, 23, 1, []⟩] := by decide +kernel
/-- From the next slot the queue offers tag 4 alone (section 5.7). -/
theorem test_example57_offers_tag_4_alone :
    ((selectQueue (member.withQueue example57.queue)).map fun e => (e.mem.bind MemFields.judged).isSome) = [true, false, false, false] := by
  decide +kernel
/-- A request accepted just before a RESTART is answered ABORTED (R93), one taken after it NOT_MEMBER. -/
theorem test_request_and_restart :
    (run [.readRequest 3 1 1 false 0, .restart 4] member).port.joining =
        [.retired 0 ⟨.retired .aborted, 0, 3, 1, []⟩, .made ⟨.retired .ok, 8, 4, 0, []⟩] ∧
      (run [.restart 4, .readRequest 3 1 1 false 0] member).port.joining =
        [.made ⟨.retired .ok, 8, 4, 0, []⟩, .made ⟨.refused .notMember, 0, 3, 1, []⟩] := by decide +kernel
/-- A lone FENCE retires with OK at the end of its slot (R91, R103). -/
theorem test_lone_fence_retires :
    (match step (run [.fence 3] member) with
      | .next t => (t.queue.length, t.port.responses) | _ => (1, [])) =
      (0, [⟨.retired .ok, 4, 3, 0, []⟩]) := by decide +kernel
/-- A MODE_SET takes a MEMBER to RESYNC and records no fault of its own (R51). -/
theorem test_mode_set_enters_resync :
    (run [.modeSetCommand 5 0 5] member).membership.state = .resync ∧
      (run [.modeSetCommand 5 0 5] member).faults.first = none := by decide +kernel
/-- The COMMAND_ERROR of a refused command comes two slots later (R13): after a refused CLOSE and two slot ends. -/
theorem test_command_error_two_slots_later :
    let on := member.withMemory { member.memory with alertEnable := true }
    let s := run [.closeCommand 5 7 3] on
    let next (s : State) : State := match step s with | .next t => t | _ => s
    (next s).memory.alertLine.commandError = false ∧ (next (next s)).memory.alertLine.commandError = true := by
  decide +kernel

/-- A REFRESH in the slot of entry to LISTENING sets the duty pointer, whichever is taken first (R148). -/
theorem test_refresh_in_the_arrival_slot :
    (run [.refreshCommand 5 0, .startRecordReadComplete (bitsOf record)] loading).controller.duty = some 5 ∧
      (run [.startRecordReadComplete (bitsOf record), .refreshCommand 5 0] loading).controller.duty = some 5 := by decide +kernel

end Sys2Proof.Tests
end

section
/-! PROOFS. An observed CLOSE (R68). -/

namespace Sys2Proof.Machine

/-! ### A known mirror's banks and holds -/

theorem KnownMirror.bank_eq_getElem (m : KnownMirror) (k : BankNo) : m.bank k = m.banks[k.toNat] := rfl

@[simp] theorem KnownMirror.withBank_bank_same (m : KnownMirror) (k : BankNo) (b : BankRecord) :
    (m.withBank k b).bank k = b := by
  simp [KnownMirror.bank_eq_getElem, KnownMirror.withBank]

theorem KnownMirror.withBank_bank_other (m : KnownMirror) {j k : BankNo} (b : BankRecord) (h : j ≠ k) :
    (m.withBank k b).bank j = m.bank j := by
  have hn : k.toNat ≠ j.toNat := fun e => h (BitVec.eq_of_toNat_eq e.symm)
  simp [KnownMirror.bank_eq_getElem, KnownMirror.withBank, Vector.getElem_set_ne, hn]

@[simp] theorem KnownMirror.withBank_frame (m : KnownMirror) (k : BankNo) (b : BankRecord) :
    (m.withBank k b).channel = m.channel ∧ (m.withBank k b).refreshHold = m.refreshHold ∧
      (m.withBank k b).quietHold = m.quietHold := ⟨rfl, rfl, rfl⟩

@[simp] theorem KnownMirror.sampleReady_frame (m : KnownMirror) (ready : Bool) :
    (m.sampleReady ready).banks = m.banks ∧ (m.sampleReady ready).refreshHold = m.refreshHold ∧
      (m.sampleReady ready).quietHold = m.quietHold := by
  unfold KnownMirror.sampleReady
  (repeat' split) <;> simp

@[simp] theorem KnownMirror.sampleReady_bank (m : KnownMirror) (ready : Bool) (k : BankNo) :
    (m.sampleReady ready).bank k = m.bank k := by
  simp [KnownMirror.bank]

theorem KnownMirror.sampleReady_channel (m : KnownMirror) (ready : Bool) :
    (m.sampleReady ready).channel = if m.channel = .initializing ∧ ready = true then .running else m.channel := by
  unfold KnownMirror.sampleReady
  cases hm : m.channel with
  | initializing => cases ready <;> simp [hm]
  | running | sleeping => simp [hm]

/-- A bank's record after a CLOSE of it (R68). -/
def closedBy (t : Timing) (slot : Nat) (b : BankRecord) : BankRecord :=
  { b with opened := none, earliestOpen := slot + t.closeDelay }

theorem KnownMirror.apply_close (m : KnownMirror) (t : Timing) (slot : Nat) (quiet ready : Bool) (check : CheckValue)
    (bank : BankNo) :
    m.apply t slot quiet ready (.close check bank) =
      (m.withBank bank (closedBy t slot (m.bank bank))).sampleReady ready := rfl

theorem KnownMirror.apply_close_bank (m : KnownMirror) (t : Timing) (slot : Nat) (quiet ready : Bool)
    (check : CheckValue) (bank : BankNo) :
    (m.apply t slot quiet ready (.close check bank)).bank bank = closedBy t slot (m.bank bank) := by
  rw [apply_close, sampleReady_bank, withBank_bank_same]

theorem KnownMirror.apply_close_bank_other (m : KnownMirror) (t : Timing) (slot : Nat) (quiet ready : Bool)
    (check : CheckValue) {b bank : BankNo} (h : b ≠ bank) :
    (m.apply t slot quiet ready (.close check bank)).bank b = m.bank b := by
  rw [apply_close, sampleReady_bank, withBank_bank_other _ _ h]

theorem KnownMirror.apply_close_frame (m : KnownMirror) (t : Timing) (slot : Nat) (quiet ready : Bool)
    (check : CheckValue) (bank : BankNo) :
    (m.apply t slot quiet ready (.close check bank)).refreshHold = m.refreshHold ∧
      (m.apply t slot quiet ready (.close check bank)).quietHold = m.quietHold ∧
      (m.apply t slot quiet ready (.close check bank)).channel =
        if m.channel = .initializing ∧ ready = true then .running else m.channel := by
  rw [apply_close, sampleReady_channel]
  simp

/-- The comparison passes a CLOSE that carries the row the mirror holds open in the bank, and no other (R76). -/
theorem KnownMirror.mismatch_close_eq_false {m : KnownMirror} {check : CheckValue} {bank : BankNo} :
    m.mismatch (.close check bank) = false ↔ ∃ row, m.openRow bank = some row ∧ check = rowCheck row := by
  simp [KnownMirror.mismatch, eq_comm]

theorem KnownMirror.mismatch_close_of_closed {m : KnownMirror} (check : CheckValue) {bank : BankNo}
    (h : (m.bank bank).opened = none) : m.mismatch (.close check bank) = true := by
  simp [KnownMirror.mismatch, KnownMirror.openRow, h]

/-! ### What every observation does before its command is taken (R66) -/

/-- The state in which what the command phase carried is taken: the memory has it, the queue is aged and the recent issuers
have moved on. -/
def heard (o : Observed) (s : State) : State := moveIssuers o (ageQueue o (markObserved o (giveMemory o s)))

@[simp] theorem heard_frame (o : Observed) (s : State) :
    (heard o s).slot = s.slot ∧ (heard o s).lines = s.lines ∧
      (heard o s).table = s.table ∧ (heard o s).dataUnit = s.dataUnit ∧ (heard o s).controller = s.controller ∧
      (heard o s).port = s.port ∧ (heard o s).faults = s.faults ∧ (heard o s).counters = s.counters ∧
      (heard o s).timing = s.timing := by
  simp [heard]

@[simp] theorem heard_membership (o : Observed) (s : State) : (heard o s).membership = s.membership := by
  simp [heard]

theorem heard_mirror (o : Observed) (s : State) :
    (heard o s).mirror = { s.mirror with kept := s.mirror.kept.map fun k => k.moveIssuers o } := by
  simp [heard, moveIssuers]

@[simp] theorem heard_observed (o : Observed) (s : State) : (heard o s).work.observed = some o := by
  simp [heard, markObserved]

@[simp] theorem heard_attributed (o : Observed) (s : State) :
    (heard o s).work.attributed = s.work.attributed := by
  simp [heard, markObserved]

theorem heard_queue {s : State} (o : Observed) (h : QueueUnjudged s) : (heard o s).queue = s.queue := by
  have hq : (markObserved o (giveMemory o s)).queue = s.queue := by simp
  have hu : QueueUnjudged (markObserved o (giveMemory o s)) := by unfold QueueUnjudged; rwa [hq]
  simp [heard, ageQueue_unjudged o hu]

theorem compares_congr {s t : State} (h : t.membership = s.membership) : compares t = compares s := by
  unfold compares; rw [h]

theorem takesLane_of_compares {s : State} (hc : compares s = true) (ha : s.work.arrived = false) :
    takesLane s = true := by
  unfold compares at hc
  unfold takesLane
  cases hs : s.membership.state with
  | off | loading => simp [hs] at hc
  | listening | initializing | member | resync | leaving | draining | detached | withdrawn => simp [ha]

theorem observe_of_takesLane {s : State} (o : Observed) (h : takesLane s = true) :
    observe o s = retireDone false (judgeAlerted false (takeObserved o (heard o s))) := by
  have hg : takesLane (giveMemory o s) = true := by simpa [takesLane] using h
  simp [observe, heard, hg]

/-- With nothing to retire and no alert to judge, the observation ends where its command was taken. -/
theorem settle_observation_of_calm {u : State} (hq : QueueOpen u) (ha : u.work.attributed = none) :
    retireDone false (judgeAlerted false u) = u := by
  rw [judgeAlerted_none false ha, retireDone_open false hq]

/-! ### A command that the comparison passes -/

theorem State.withMembership_self (s : State) : s.withMembership s.membership = s := rfl

theorem mirrorFault_of_match {s : State} {m : KnownMirror} {c : LaneCommand} (hc : compares s = true)
    (hk : s.mirror.known = some m) (hm : m.mismatch c = false) : mirrorFault c s = false := by
  simp [mirrorFault, comparedMirror, hc, hk, hm]

/-- A command that is no sync point and no MODE_SET, and that the comparison passes, leaves the station state: it ends a LISTENING
station's silence and does nothing else (R47). -/
theorem stationCommand_of_match {s : State} {c : LaneCommand} (i : StationNo) (hc : compares s = true)
    (hd : syncDigest c = none) (hm : isModeSet c = false) :
    stationCommand i false c s = s.withMembership (silenced s.membership) := by
  unfold compares at hc
  unfold stationCommand silenced
  cases hs : s.membership.state with
  | listening => simp [listenCommand, hd, hm, hs]
  | member | leaving => simp [endDoubt, isSync, hd, hm, State.withMembership_self]
  | off | loading | initializing | resync | draining | detached | withdrawn => simp [hs] at hc

theorem takeCommand_close {s : State} {m : KnownMirror} {i : StationNo} {check : CheckValue} {bank : BankNo}
    (hc : compares s = true) (hk : s.mirror.known = some m) (hm : m.mismatch (.close check bank) = false)
    (ho : s.work.observed = some (.command i (.close check bank))) :
    takeCommand i (.close check bank) s =
      (applyMirror (.close check bank) s).withMembership (silenced s.membership) := by
  have hnote : noteCommand i (.close check bank) s = s := rfl
  have haccount (u : State) : accountCommand (.close check bank) u = u := by simp [accountCommand]
  have hc' : compares (applyMirror (.close check bank) s) = true := (compares_congr (by simp)).trans hc
  unfold takeCommand
  dsimp only
  rw [mirrorFault_of_match hc hk hm, hnote, haccount, stationCommand_of_match i hc' rfl rfl, followRefresh_none]
  · simp
  · simp [observedRefresh, ho]

/-! ### The observed CLOSE -/

/-- The state in which a CLOSE that the comparison passes leaves the station, before anything retires. -/
def closeTaken (i : StationNo) (check : CheckValue) (bank : BankNo) (s : State) : State :=
  (applyMirror (.close check bank) (heard (.command i (.close check bank)) s)).withMembership (silenced s.membership)

theorem exec_closeCommand {s : State} {m : KnownMirror} {i : StationNo} {check : CheckValue} {bank : BankNo}
    (hc : compares s = true) (ha : s.work.arrived = false) (hk : s.mirror.known = some m)
    (hm : m.mismatch (.close check bank) = false) (hr : ReadyToObserve (.command i (.close check bank)) s) :
    exec (.closeCommand i check bank) s = .next (retireDone false (judgeAlerted false (closeTaken i check bank s))) := by
  have hexec : exec (.closeCommand i check bank) s = .next (observeCommand i (.close check bank) s) := rfl
  have hc' : compares (heard (.command i (.close check bank)) s) = true := (compares_congr (by simp)).trans hc
  have hk' : (heard (.command i (.close check bank)) s).mirror.known = some m := by rw [heard_mirror]; exact hk
  rw [hexec, observeCommand, observeWord_ready _ hr, observe_of_takesLane _ (takesLane_of_compares hc ha), takeObserved,
    takeCommand_close hc' hk' hm (heard_observed _ s), closeTaken, heard_membership]

theorem closeTaken_known {s : State} {m : KnownMirror} (i : StationNo) (check : CheckValue) (bank : BankNo)
    (hk : s.mirror.known = some m) :
    (closeTaken i check bank s).mirror.known =
      some (m.apply s.timing s.slot s.lines.quietSample s.lines.readySample (.close check bank)) := by
  simp [closeTaken, applyMirror, heard_mirror, hk]

theorem closeTaken_kept {s : State} {k : KeptFields} (i : StationNo) (check : CheckValue) (bank : BankNo)
    (hk : s.mirror.kept = some k) :
    (closeTaken i check bank s).mirror.kept = some { k with newerIssuer := some i, olderIssuer := k.newerIssuer } := by
  simp [closeTaken, applyMirror, heard_mirror, hk, KeptFields.apply, KeptFields.moveIssuers, observedIssuer]

@[simp] theorem closeTaken_frame (i : StationNo) (check : CheckValue) (bank : BankNo) (s : State) :
    (closeTaken i check bank s).membership = silenced s.membership ∧ (closeTaken i check bank s).table = s.table ∧
      (closeTaken i check bank s).port = s.port ∧ (closeTaken i check bank s).counters = s.counters ∧
      (closeTaken i check bank s).faults = s.faults ∧ (closeTaken i check bank s).mirror.fence = s.mirror.fence ∧
      (closeTaken i check bank s).dataUnit = s.dataUnit ∧ (closeTaken i check bank s).controller = s.controller ∧
      (closeTaken i check bank s).work.attributed = s.work.attributed := by
  simp [closeTaken, applyMirror, heard_mirror]

theorem closeTaken_queue {s : State} (i : StationNo) (check : CheckValue) (bank : BankNo) (h : QueueUnjudged s) :
    (closeTaken i check bank s).queue = s.queue := by
  simp [closeTaken, heard_queue _ h]

theorem closeTaken_outer (i : StationNo) (check : CheckValue) (bank : BankNo) (s : State) :
    OuterKept s (closeTaken i check bank s) := by
  simp [OuterKept, closeTaken, heard]

theorem closeTaken_inner {s : State} (i : StationNo) (check : CheckValue) (bank : BankNo) (h : QueueUnjudged s) :
    InnerKept s (closeTaken i check bank s) := by
  simp [InnerKept, closeTaken_queue i check bank h]

/-- In a calm slot nothing retires and no alert is judged after the CLOSE. -/
theorem settle_closeTaken {s : State} (i : StationNo) (check : CheckValue) (bank : BankNo) (h : Calm s) :
    retireDone false (judgeAlerted false (closeTaken i check bank s)) = closeTaken i check bank s := by
  obtain ⟨hopen, hunjudged, hattributed⟩ := h
  refine settle_observation_of_calm ?_ (by simpa using hattributed)
  unfold QueueOpen
  rwa [closeTaken_queue i check bank hunjudged]

/-- Settles O14: a CLOSE that the comparison passes reaches the mirror as `closeTaken` has it, and the closed bank's record
and the kept fields are those of `KnownMirror.apply` and `KeptFields.apply`. -/
theorem closeCommandClosesBank : Obligations.CloseCommandClosesBank := by
  unfold Obligations.CloseCommandClosesBank
  constructor
  · intro s i check bank m k row hcompares harrived hknown hkept hrow hcheck hready
    have hmatch : m.mismatch (.close check bank) = false := KnownMirror.mismatch_close_eq_false.2 ⟨row, hrow, hcheck⟩
    obtain ⟨hrefresh, hquiet, hchannel⟩ :=
      m.apply_close_frame s.timing s.slot s.lines.quietSample s.lines.readySample check bank
    refine ⟨_, _, exec_closeCommand hcompares harrived hknown hmatch hready, ?_, m.apply_close_bank .., fun b hb =>
      m.apply_close_bank_other _ _ _ _ _ hb, hrefresh, hquiet, hchannel, ?_, by simp, by simp, ?_, fun hcalm => ?_⟩
    · simpa using closeTaken_known i check bank hknown
    · simpa using closeTaken_kept i check bank hkept
    · simpa [OuterKept] using closeTaken_outer i check bank s
    · have ⟨_, hunjudged, _⟩ := hcalm
      rw [settle_closeTaken i check bank hcalm]
      exact ⟨closeTaken_inner i check bank hunjudged, by simp, by simp⟩
  · intro m k t slot quiet ready check bank
    rw [KnownMirror.apply_close_bank]
    exact ⟨rfl, rfl, rfl, KnownMirror.mismatch_close_of_closed check⟩

end Sys2Proof.Machine
end

section
/-! PROOFS. The queue candidate and the Claim Unit's choice (R117 to R119, R124, R125, R131). -/

namespace Sys2Proof.Machine

/-! ### The rank of a candidate (R124, R128) -/

theorem ClaimClass.code_inj {a b : ClaimClass} : a.code = b.code ↔ a = b := by
  cases a <;> cases b <;> decide

/-- What candidates are compared by: the class, then the score. -/
def Candidate.rank (c : Candidate) : Nat ×ₗ Nat := toLex (c.cls.code.toNat, c.score)

theorem Candidate.rank_lt_iff {a b : Candidate} :
    a.rank < b.rank ↔ a.cls.code < b.cls.code ∨ (a.cls = b.cls ∧ a.score < b.score) := by
  simp [Candidate.rank, Prod.Lex.toLex_lt_toLex, BitVec.lt_def, BitVec.toNat_inj, ClaimClass.code_inj]

theorem outranks_iff {a b : Candidate} : outranks a b = true ↔ b.rank < a.rank := by
  simp [outranks, Candidate.rank_lt_iff, ClaimClass.code_inj, eq_comm (a := a.cls)]

theorem outranks_eq_false_iff {a b : Candidate} : outranks a b = false ↔ a.rank ≤ b.rank := by
  rw [← Bool.not_eq_true, outranks_iff, not_lt]

/-! ### The better of two candidates -/

theorem better_some_some (x y : Candidate) :
    better (some x) (some y) = if x.rank < y.rank then some y else some x := by
  simp [better, outranks_iff]

theorem better_eq_none_iff {a b : Option Candidate} : better a b = none ↔ a = none ∧ b = none := by
  cases a with
  | none => simp [better]
  | some x =>
    cases b with
    | none => simp [better]
    | some y => rw [better_some_some]; split <;> simp

/-- The second of two candidates is the better only where it ranks above the first. -/
theorem better_eq_some_iff {a b : Option Candidate} {c : Candidate} :
    better a b = some c ↔
      (a = some c ∧ ∀ d, b = some d → d.rank ≤ c.rank) ∨ (b = some c ∧ ∀ d, a = some d → d.rank < c.rank) := by
  cases a with
  | none => simp [better]
  | some x =>
    cases b with
    | none => simp [better]
    | some y =>
      rw [better_some_some]
      simp only [Option.some.injEq, forall_eq']
      constructor
      · split
        · rintro ⟨⟩; exact .inr ⟨rfl, ‹_›⟩
        · rintro ⟨⟩; exact .inl ⟨rfl, not_lt.1 ‹_›⟩
      · rintro (⟨rfl, hle⟩ | ⟨rfl, hlt⟩)
        · rw [if_neg (not_lt.2 hle)]
        · rw [if_pos hlt]

/-- The better of two candidates ranks at or above both. -/
theorem rank_le_of_better {a b : Option Candidate} {c d : Candidate} (h : better a b = some c)
    (hd : a = some d ∨ b = some d) : d.rank ≤ c.rank := by
  rcases better_eq_some_iff.1 h with ⟨rfl, hb⟩ | ⟨rfl, ha⟩
  · rcases hd with hd | hd
    · rw [Option.some.inj hd]
    · exact hb d hd
  · rcases hd with hd | hd
    · exact (ha d hd).le
    · rw [Option.some.inj hd]

/-! ### The candidate of an entry (R125) -/

theorem entryCandidate_eq_some_iff {last : Option Direction} {position : Nat} {e : Entry} {c : Candidate} :
    entryCandidate last position e = some c ↔
      ∃ m command, e.mem = some m ∧ m.judged = some ⟨command, true⟩ ∧
        c = ⟨.queue position e.tag, command, (weight last e.phase m command).1, (weight last e.phase m command).2⟩ := by
  unfold entryCandidate
  cases hm : e.mem with
  | none => simp
  | some m =>
    cases hj : m.judged with
    | none => simp [hj]
    | some j =>
      obtain ⟨command, eligible⟩ := j
      cases eligible with
      | false => simp [hj]
      | true => simp [hj, eq_comm]

/-- The queue position of an entry is only written in its candidate: it decides neither whether there is one nor its rank. -/
theorem entryCandidate_at {last : Option Direction} {n : Nat} {e : Entry} {c : Candidate} (p : Nat)
    (h : entryCandidate last n e = some c) : ∃ d, entryCandidate last p e = some d ∧ d.rank = c.rank := by
  obtain ⟨m, command, hm, hj, rfl⟩ := entryCandidate_eq_some_iff.1 h
  exact ⟨_, entryCandidate_eq_some_iff.2 ⟨m, command, hm, hj, rfl⟩, rfl⟩

theorem entryCandidate_eq_none_at {last : Option Direction} {n : Nat} {e : Entry} (p : Nat)
    (h : entryCandidate last n e = none) : entryCandidate last p e = none := by
  rw [Option.eq_none_iff_forall_ne_some] at h ⊢
  intro c hc
  obtain ⟨d, hd, -⟩ := entryCandidate_at n hc
  exact h d hd

/-! ### Class and score (R117 to R119) -/

theorem MemKind.isWrite_iff {k : MemKind} : k.isWrite = true ↔ k = .write ∨ k = .exclWrite := by
  cases k <;> simp [MemKind.isWrite]

/-- The score by the arithmetic of R118. -/
def arithmeticScore (last : Option Direction) (m : MemFields) (c : LaneCommand) : Nat :=
  baseScore c + directionBonus last c + m.age

theorem arithmeticScore_read (last : Option Direction) (m : MemFields) (x : CheckValue) (bank : BankNo)
    (column : ColumnNo) (n : BurstCount) :
    arithmeticScore last m (.read x bank column n) = 16 + (if last = some .read then 3 else 0) + m.age := rfl

theorem arithmeticScore_write (last : Option Direction) (m : MemFields) (x : CheckValue) (bank : BankNo)
    (column : ColumnNo) (n : BurstCount) :
    arithmeticScore last m (.write x bank column n) = 16 + (if last = some .write then 3 else 0) + m.age := rfl

theorem arithmeticScore_openRow (last : Option Direction) (m : MemFields) (x : CheckValue) (bank : BankNo) (row : RowNo) :
    arithmeticScore last m (.openRow x bank row) = 8 + m.age := rfl

theorem arithmeticScore_close (last : Option Direction) (m : MemFields) (x : CheckValue) (bank : BankNo) :
    arithmeticScore last m (.close x bank) = 4 + m.age := rfl

theorem weight_retryWait_write {m : MemFields} (last : Option Direction) (c : LaneCommand)
    (h : m.kind.isWrite = true) : weight last .retryWait m c = (.maintenance, 62) := by
  simp [weight, h]

theorem weight_retryWait_read {m : MemFields} (last : Option Direction) (c : LaneCommand)
    (h : ¬m.kind.isWrite = true) : weight last .retryWait m c = (.priority, arithmeticScore last m c) := by
  simp [weight, h, arithmeticScore]

theorem weight_of_ne_retryWait {phase : Phase} (last : Option Direction) (m : MemFields) (c : LaneCommand)
    (h : phase ≠ .retryWait) : weight last phase m c = (m.cls.claim, arithmeticScore last m c) := by
  cases phase with
  | retryWait => exact absurd rfl h
  | waiting | readIssued | writeIssued | done => rfl

theorem weight_score {phase : Phase} {m : MemFields} (last : Option Direction) (c : LaneCommand)
    (h : phase ≠ .retryWait ∨ ¬m.kind.isWrite = true) : (weight last phase m c).2 = arithmeticScore last m c := by
  by_cases hp : phase = .retryWait
  · subst hp
    rw [weight_retryWait_read last c (h.resolve_left (not_not.2 rfl))]
  · rw [weight_of_ne_retryWait last m c hp]

/-! ### The pick of the queue (R124) -/

theorem pickFrom_eq_none_iff {last : Option Direction} {p : Nat} {q : List Entry} :
    pickFrom last p q = none ↔ ∀ e ∈ q, ∀ n, entryCandidate last n e = none := by
  induction q generalizing p with
  | nil => simp [pickFrom]
  | cons e rest ih =>
    rw [pickFrom, better_eq_none_iff, ih, List.forall_mem_cons]
    exact and_congr_left' ⟨fun h n => entryCandidate_eq_none_at n h, fun h => h p⟩

/-- No entry's candidate ranks above the pick. -/
theorem rank_le_pickFrom {last : Option Direction} {p n : Nat} {q : List Entry} {e : Entry} {c d : Candidate}
    (h : pickFrom last p q = some c) (he : e ∈ q) (hd : entryCandidate last n e = some d) : d.rank ≤ c.rank := by
  induction q generalizing p c with
  | nil => simp at he
  | cons x rest ih =>
    rw [pickFrom] at h
    rcases List.mem_cons.1 he with rfl | hrest
    · obtain ⟨d', hd', hrank⟩ := entryCandidate_at p hd
      exact hrank ▸ rank_le_of_better h (.inl hd')
    · cases hr : pickFrom last (p + 1) rest with
      | none => simp [pickFrom_eq_none_iff.1 hr e hrest n] at hd
      | some r => exact (ih hr hrest).trans (rank_le_of_better h (.inr hr))

/-- The pick is an entry's candidate, above every older entry's and at or above every younger entry's. -/
theorem pickFrom_spec {last : Option Direction} {p : Nat} {q : List Entry} {c : Candidate}
    (h : pickFrom last p q = some c) :
    ∃ older e younger, q = older ++ e :: younger ∧ entryCandidate last (p + older.length) e = some c ∧
      (∀ o ∈ older, ∀ n d, entryCandidate last n o = some d → d.rank < c.rank) ∧
      (∀ y ∈ younger, ∀ n d, entryCandidate last n y = some d → d.rank ≤ c.rank) := by
  induction q generalizing p with
  | nil => simp [pickFrom] at h
  | cons e rest ih =>
    have hhead := h
    rw [pickFrom] at h
    rcases better_eq_some_iff.1 h with ⟨hfirst, -⟩ | ⟨hrest, hbelow⟩
    · exact ⟨[], e, rest, rfl, hfirst, by simp, fun y hy n d hd =>
        rank_le_pickFrom hhead (List.mem_cons_of_mem e hy) hd⟩
    · obtain ⟨older, x, younger, rfl, hx, holder, hyounger⟩ := ih hrest
      refine ⟨e :: older, x, younger, rfl, ?_, ?_, hyounger⟩
      · rwa [List.length_cons, Nat.add_comm older.length, ← Nat.add_assoc]
      · refine List.forall_mem_cons.2 ⟨fun n d hd => ?_, holder⟩
        obtain ⟨d', hd', hrank⟩ := entryCandidate_at p hd
        exact hrank ▸ hbelow d' hd'

/-! ### The Claim Unit's choice (R131) -/

theorem choose_eq_queue_iff {q m : Candidate} :
    choose (some q) (some m) = some q ↔ m.rank < q.rank ∨ q = m := by
  rw [choose, better_eq_some_iff]
  constructor
  · rintro (⟨hm, -⟩ | ⟨-, hlt⟩)
    · exact .inr (Option.some.inj hm).symm
    · exact .inl (hlt m rfl)
  · rintro (hlt | rfl)
    · exact .inr ⟨rfl, fun d hd => Option.some.inj hd ▸ hlt⟩
    · exact .inl ⟨rfl, fun d hd => Option.some.inj hd ▸ le_rfl⟩

theorem choose_mem (q m : Candidate) : choose (some q) (some m) = some q ∨ choose (some q) (some m) = some m := by
  cases h : choose (some q) (some m) with
  | none => simp [choose, better_eq_none_iff] at h
  | some c =>
    rcases better_eq_some_iff.1 h with ⟨hc, -⟩ | ⟨hc, -⟩
    · exact .inr hc.symm
    · exact .inl hc.symm

/-- Settles O9: the entries' candidates and their weights by `entryCandidate_eq_some_iff` and the `weight` lemmas, the pick
by `pickFrom_spec` and the choice by `choose_eq_queue_iff`, with `outranks` read as an order of ranks. -/
theorem chosenCandidateIsHighest : Obligations.ChosenCandidateIsHighest := by
  unfold Obligations.ChosenCandidateIsHighest
  refine ⟨fun _ _ _ _ => entryCandidate_eq_some_iff, fun last phase m c => ?_, fun last q => ⟨?_, fun c hc => ?_⟩,
    fun q m => ⟨?_, choose_mem q m⟩, fun _ => rfl, fun _ => rfl, rfl⟩
  · simp only [← MemKind.isWrite_iff]
    refine ⟨?_, ?_, fun hphase => ?_, fun hscore => ?_⟩
    · rintro rfl hwrite
      exact weight_retryWait_write last c hwrite
    · rintro rfl hread
      rw [weight_retryWait_read last c hread]
    · rw [weight_of_ne_retryWait last m c hphase]
      exact ⟨fun h => by rw [h]; rfl, fun h => by rw [h]; rfl⟩
    · rw [weight_score last c hscore]
      refine ⟨?_, ?_, ?_, ?_⟩
      · rintro x bank column n rfl; exact arithmeticScore_read last m x bank column n
      · rintro x bank column n rfl; exact arithmeticScore_write last m x bank column n
      · rintro x bank row rfl; exact arithmeticScore_openRow last m x bank row
      · rintro x bank rfl; exact arithmeticScore_close last m x bank
  · exact pickFrom_eq_none_iff
  · obtain ⟨older, e, younger, hq, he, holder, hyounger⟩ := pickFrom_spec hc
    rw [Nat.zero_add] at he
    exact ⟨older, e, younger, hq, he, fun o ho n d hd => outranks_iff.2 (holder o ho n d hd),
      fun y hy n d hd => outranks_eq_false_iff.2 (hyounger y hy n d hd)⟩
  · rw [choose_eq_queue_iff, Candidate.rank_lt_iff, or_assoc]

end Sys2Proof.Machine
end

section
/-! PROOFS. What a step can do to the state, said once: the moves that a slot is made of, and that every shared operation
is a run of them. The five invariants are each proved of the moves alone. -/

namespace Sys2Proof.Machine

/-! ### The moves -/

/-- A change of the reservations that keeps the limits of R162. -/
def TableKept (t u : ReservationTable) : Prop :=
  t.reservations.length ≤ 6 ∧ (t.reservations.map Reservation.thread).Nodup →
    u.reservations.length ≤ 6 ∧ (u.reservations.map Reservation.thread).Nodup

/-- Entries changed in place: each keeps its tag, and its age and guard count stay within their limits (R87, R121). -/
def EntriesKept (s : State) (q : List Entry) : Prop :=
  q.map Entry.tag = s.queue.map Entry.tag ∧
    ((∀ e ∈ s.queue, EntryWithin s.settings e) → ∀ e ∈ q, EntryWithin s.settings e)

/-- A vote that stands either stood before, or has its three conditions (R156). -/
def VoteKept (s : State) (c : RefreshQuiet) : Prop :=
  c.vote = true →
    s.controller.vote = true ∧ (c.permission = s.controller.permission ∨ s.membership.state ≠ .member) ∨
      s.membership.state = .member ∧ s.queue = [] ∧ c.permission = some true

/-- A change of the controller that keeps debt (R146), vote (R156) and duty pointer (R148) where they may be. -/
def ControllerKept (s : State) (c : RefreshQuiet) : Prop :=
  (s.controller.debt ≤ 7 → c.debt ≤ 7) ∧ VoteKept s c ∧
    (c.duty.isSome = true → s.controller.duty.isSome = true ∨ keepsDuty s.membership.state = true)

/-- A change of the mirror that leaves it known or doubted as it was, sets a fence in a holding state alone (R83) and a quiet
hold at a high quiet line alone (R71). -/
def MirrorKept (s : State) (m : Mirror) : Prop :=
  m.known.isSome = s.mirror.known.isSome ∧ m.kept.isSome = s.mirror.kept.isSome ∧
    (m.fence.isSome = true → s.mirror.fence.isSome = true ∨ holdsFence s.membership.state = true) ∧
    ∀ k, m.known = some k → k.quietHold = true →
      s.lines.quietSample = true ∨ ∃ j, s.mirror.known = some j ∧ j.quietHold = true

/-- The kept fields that an arrived state needs are there, or are promised by an invariant (R65). -/
def HasKept (s : State) : Prop :=
  s.mirror.kept.isSome = true ∨ arrivedState s.membership.state = true ∨
    ∃ r, s.loader.record = some r ∧ judgeRecord r = none

/-- The queue is empty, or the station is in a state whose queue is empty (R89, R108). -/
def QueueGone (s : State) : Prop := s.queue = [] ∨ emptyQueueState s.membership.state = true

/-- The mirror is known wherever there are kept fields to make it known with (R74). -/
def KnownIfKept (s : State) : Prop := s.mirror.kept.isSome = true → s.mirror.known.isSome = true

/-- One change of the state inside a slot. Those of the station state carry what the change rests on. -/
inductive Move : State → State → Prop
  | work {s : State} (w : SlotWork) (h : w.positions = s.work.positions) : Move s (s.withWork w)
  | faults {s : State} (f : FaultRecord) : Move s (s.withFaults f)
  | counters {s : State} (c : Counters) : Move s (s.withCounters c)
  | dataUnit {s : State} (d : DataUnit) : Move s (s.withDataUnit d)
  | memory {s : State} (m : ChannelMemory) (h : contentsOk s.memory.contents = true → contentsOk m.contents = true) :
    Move s (s.withMemory m)
  | table {s : State} (t : ReservationTable) (h : TableKept s.table t) : Move s (s.withTable t)
  | entries {s : State} (q : List Entry) (h : EntriesKept s q) : Move s (s.withQueue q)
  | retire {s : State} (q : List Entry) (js : List Joining) (hq : q.Sublist s.queue)
    (hjs : js.length + q.length = s.port.joining.length + s.queue.length) (hold : s.port.joining.Sublist js) :
    Move s ((s.withQueue q).withPort { s.port with joining := js })
  | progress {s : State} (p : Option PartialWrite) : Move s (s.withPort { s.port with inProgress := p })
  | controller {s : State} (c : RefreshQuiet) (h : ControllerKept s c) : Move s (s.withController c)
  | mirror {s : State} (m : Mirror) (h : MirrorKept s m) : Move s (s.withMirror m)
  | ready {s : State} (high : Bool) : Move s (s.withLines { s.lines with readySample := high })
  | quiet {s : State} (high : Bool) : Move s (takeQuiet high s)
  | roster {s : State} (r : StationSet) : Move s (s.withMembership { s.membership with roster := r })
  | silence {s : State} (n : Nat) : Move s (s.withMembership { s.membership with silence := n })
  | record {s : State} (r : Record) (h : judgeRecord r ≠ none) :
    Move s (s.withLoader { s.loader with record := some r, selected := false, serialOut := false, serialClock := false })
  | accept {s : State} (l : Loader) (k : KeptFields) (h : s.membership.state = .loading) :
    Move s ((s.withLoader l).withMirror { s.mirror with kept := some k })
  | leave {s : State} (st : StationState) (hst : st = .listening ∨ st = .detached ∨ st = .withdrawn)
    (hvote : s.controller.vote = false) (hduty : s.controller.duty = none) (hkept : arrivedState st = true → HasKept s)
    (hqueue : emptyQueueState st = true → QueueGone s) :
    Move s ((s.withMirror { s.mirror with known := none, fence := none }).withMembership
      { s.membership with state := st, initStep := none, drainTarget := none, leaveDoubt := false })
  | drain {s : State} (target : DrainTarget) (hvote : s.controller.vote = false) :
    Move s ((s.withMirror { s.mirror with known := none, fence := none }).withMembership
      { s.membership with state := .draining, initStep := none, drainTarget := some target, leaveDoubt := false })
  | retarget {s : State} (target : DrainTarget) (h : s.membership.state = .draining) :
    Move s (s.withMembership { s.membership with drainTarget := some target })
  | beginInit {s : State} (h : s.membership.state = .listening) :
    Move s ((s.withMirror { s.mirror with known := none, fence := none }).withMembership
      { s.membership with state := .initializing, initStep := some .setReadLatency })
  | advance {s : State} (st n : InitStep) (h : s.membership.initStep = some st) (hn : st.next = some n)
    (hinit : s.membership.state = .initializing) (hknown : st = .closeAll → KnownIfKept s) :
    Move s (s.withMembership { s.membership with initStep := some n })
  | member {s : State} (h : s.membership.state = .listening ∧ KnownIfKept s ∨ s.membership.initStep = some .secondRefresh) :
    Move s (s.withMembership { s.membership with state := .member, initStep := none })
  | resync {s : State} (h : s.membership.state = .member) (hvote : s.controller.vote = false) :
    Move s (doubtMirror (setState .resync s))
  | leaveDoubt {s : State} (h : s.membership.state = .leaving) :
    Move s (doubtMirror (s.withMembership { s.membership with leaveDoubt := true }))
  | doubt {s : State} (h : s.membership.state = .listening) : Move s (doubtMirror s)
  | learn {s : State} (c : LaneCommand) (h : s.membership.state = .listening ∨ s.membership.state = .initializing) :
    Move s (makeKnown c s)
  | resume {s : State} (c : LaneCommand) (hsync : isSync c = true) (h : s.membership.state = .resync) :
    Move s (setState .member (makeKnown c s))
  | trust {s : State} (c : LaneCommand) (hsync : isSync c = true) (h : s.membership.state = .leaving) :
    Move s (makeKnown c (s.withMembership { s.membership with leaveDoubt := false }))
  | leaving {s : State} (h : s.membership.state = .member) (hvote : s.controller.vote = false) :
    Move s (setState .leaving s)

/-- A run of moves. -/
def Moves (s t : State) : Prop := Relation.ReflTransGen Move s t

theorem Moves.refl {s : State} : Moves s s := Relation.ReflTransGen.refl

theorem Moves.one {s t : State} (h : Move s t) : Moves s t := Relation.ReflTransGen.single h

theorem Moves.trans {s t u : State} (h : Moves s t) (h' : Moves t u) : Moves s u := Relation.ReflTransGen.trans h h'

/-- An operation that is a run of moves, after a run of moves. -/
theorem Moves.andThen {s t : State} {op : State → State} (h : Moves s t) (hop : ∀ u, Moves u (op u)) : Moves s (op t) :=
  h.trans (hop t)

theorem Moves.ite {s t u : State} {p : Prop} [Decidable p] (ht : p → Moves s t) (hu : ¬p → Moves s u) :
    Moves s (if p then t else u) := by
  split
  · exact ht ‹_›
  · exact hu ‹_›

section
variable {s t : State}

theorem Moves.withWork {w : SlotWork} (h : Moves s t) (hw : w.positions = t.work.positions) : Moves s (t.withWork w) :=
  h.trans (.one (.work w hw))

theorem Moves.withController {c : RefreshQuiet} (h : Moves s t) (hc : ControllerKept t c) :
    Moves s (t.withController c) := h.trans (.one (.controller c hc))

theorem Moves.withDataUnit {d : DataUnit} (h : Moves s t) : Moves s (t.withDataUnit d) := h.trans (.one (.dataUnit d))

theorem Moves.withCounters {c : Counters} (h : Moves s t) : Moves s (t.withCounters c) := h.trans (.one (.counters c))

theorem Moves.withTable {u : ReservationTable} (h : Moves s t) (hu : TableKept t.table u) : Moves s (t.withTable u) :=
  h.trans (.one (.table u hu))

theorem Moves.withQueue {q : List Entry} (h : Moves s t) (hq : EntriesKept t q) : Moves s (t.withQueue q) :=
  h.trans (.one (.entries q hq))

theorem Moves.withMirror {m : Mirror} (h : Moves s t) (hm : MirrorKept t m) : Moves s (t.withMirror m) :=
  h.trans (.one (.mirror m hm))

end

/-! ### Work, faults and the controller -/

theorem recordFault_moves (k : FaultKind) (d : Byte) (s : State) : Moves s (recordFault k d s) := .one (.faults _)

theorem markEnded_moves (p c : Bool) (s : State) : Moves s (markEnded p c s) := .withWork .refl rfl

/-- A change of the controller that leaves vote, permission and duty pointer. -/
theorem controllerKept_of_debt {s : State} {c : RefreshQuiet} (hdebt : s.controller.debt ≤ 7 → c.debt ≤ 7)
    (hvote : c.vote = s.controller.vote) (hperm : c.permission = s.controller.permission)
    (hduty : c.duty = s.controller.duty) : ControllerKept s c :=
  ⟨hdebt, fun h => .inl ⟨hvote ▸ h, .inl hperm⟩, fun h => .inl (hduty ▸ h)⟩

theorem expirePeriod_moves (s : State) : Moves s (expirePeriod s) := by
  unfold expirePeriod
  refine .ite (fun h => ?_) fun _ => ?_
  · exact .withController (.withWork .refl rfl) (controllerKept_of_debt (fun _ => h) rfl rfl rfl)
  · refine .trans ?_ (recordFault_moves _ _ _)
    exact .withController (.withWork .refl rfl) (controllerKept_of_debt id rfl rfl rfl)

theorem countPeriod_moves (s : State) : Moves s (countPeriod s) :=
  .ite (fun _ => expirePeriod_moves s) fun _ => .ite
    (fun _ => .withWork (.withController .refl (controllerKept_of_debt id rfl rfl rfl)) rfl) fun _ => .refl

theorem startAccount_moves (s : State) : Moves s (startAccount s) :=
  .withWork (.withController .refl (controllerKept_of_debt (fun _ => Nat.zero_le 7) rfl rfl rfl)) rfl

theorem settleAccount_moves (s : State) : Moves s (settleAccount s) :=
  .ite (fun _ => .withController .refl (controllerKept_of_debt id rfl rfl rfl)) fun _ => .refl

theorem stopAccount_moves (s : State) : Moves s (stopAccount s) :=
  .withController (.ite (fun _ => expirePeriod_moves s) fun _ => .refl)
    (controllerKept_of_debt (fun _ => Nat.zero_le 7) rfl rfl rfl)

theorem accountCommand_moves (c : LaneCommand) (s : State) : Moves s (accountCommand c s) := by
  unfold accountCommand
  refine .ite (fun _ => ?_) fun _ => .refl
  split
  · exact .withController .refl (controllerKept_of_debt (fun h => (Nat.sub_le _ _).trans h) rfl rfl rfl)
  · exact .withWork (.withController .refl (controllerKept_of_debt (fun _ => Nat.zero_le 7) rfl rfl rfl)) rfl
  · exact .withWork (.withController .refl (controllerKept_of_debt (fun _ => Nat.le_add_left 1 6) rfl rfl rfl)) rfl
  · exact .refl

theorem setDuty_moves {s : State} (d : Option StationNo)
    (h : d.isSome = true → s.controller.duty.isSome = true ∨ keepsDuty s.membership.state = true) :
    Moves s (setDuty d s) :=
  .withController .refl ⟨id, fun h => .inl ⟨h, .inl rfl⟩, h⟩

theorem followRefresh_moves (s : State) : Moves s (followRefresh s) := by
  unfold followRefresh
  split
  · exact .ite (fun h => setDuty_moves _ fun _ => .inr h) fun _ => .refl
  · exact .refl

theorem withdrawVote_moves (s : State) : Moves s (withdrawVote s) :=
  .withController .refl ⟨id, fun h => by simp at h, fun h => .inl h⟩

theorem voteStands_iff {s : State} : voteStands s = true ↔ s.membership.state = .member ∧ s.queue = [] ∧
    s.controller.permission = some true ∧ s.settings.idleWait ≤ s.controller.idleCount := by
  simp only [voteStands, Bool.and_eq_true, decide_eq_true_eq, List.isEmpty_iff]
  tauto

theorem recastVote_moves (s : State) : Moves s (recastVote s) := by
  refine .withController .refl ⟨id, fun h => .inr ?_, fun h => .inl h⟩
  obtain ⟨hmember, hempty, hpermission, -⟩ := voteStands_iff.1 h
  exact ⟨hmember, hempty, hpermission⟩

theorem countIdle_moves (s : State) : Moves s (countIdle s) :=
  .ite (fun _ => .withWork (.withController .refl (controllerKept_of_debt id rfl rfl rfl)) rfl) fun _ => .refl

theorem restartIdle_moves (s : State) : Moves s (restartIdle s) :=
  .ite (fun _ => .withWork (.withController .refl (controllerKept_of_debt id rfl rfl rfl)) rfl) fun _ => .refl

/-! ### Entries -/

theorem entriesKept_map {s : State} {f : Entry → Entry} (htag : ∀ e ∈ s.queue, (f e).tag = e.tag)
    (hwithin : ∀ e ∈ s.queue, EntryWithin s.settings e → EntryWithin s.settings (f e)) :
    EntriesKept s (s.queue.map f) := by
  refine ⟨?_, fun h e he => ?_⟩
  · rw [List.map_map]
    exact List.map_congr_left htag
  · obtain ⟨x, hx, rfl⟩ := List.mem_map.1 he
    exact hwithin x hx (h x hx)

/-- A change of the entries of a tag that leaves tag, age and guard count. -/
theorem changeEntry_moves {tag : Tag} {f : Entry → Entry} (htag : ∀ e, (f e).tag = e.tag)
    (hwithin : ∀ c e, EntryWithin c e → EntryWithin c (f e)) (s : State) : Moves s (changeEntry tag f s) := by
  refine .withQueue .refl (entriesKept_map (fun e _ => ?_) fun e _ h => ?_)
  · split
    · exact htag e
    · rfl
  · split
    · exact hwithin _ e h
    · exact h

theorem EntryWithin.map {c : Settings} {e e' : Entry} (h : EntryWithin c e) {f : MemFields → MemFields}
    (he : e'.mem = e.mem.map f) (hage : ∀ m, (f m).age = m.age) (hguard : ∀ m, (f m).guardCount = m.guardCount) :
    EntryWithin c e' := by
  intro m hm
  rw [he] at hm
  obtain ⟨m₀, hm₀, rfl⟩ := Option.map_eq_some_iff.1 hm
  rw [hage, hguard]
  exact h m₀ hm₀

theorem answerEntry_moves (tag : Tag) (o : EntryOutcome) (s : State) : Moves s (answerEntry tag o s) :=
  changeEntry_moves (f := fun e => e.answer o) (fun _ => rfl) (fun _ _ h => h) s

theorem retireWalk_sublist (slot : Nat) (closing older : Bool) (q : List Entry) :
    (retireWalk slot closing older q).1.Sublist q := by
  induction q generalizing older with
  | nil => exact .slnil
  | cons e rest ih =>
    unfold retireWalk
    split
    · exact (ih older).cons e
    · exact (ih true).cons_cons e

theorem retireWalk_length (slot : Nat) (closing older : Bool) (q : List Entry) :
    (retireWalk slot closing older q).2.length + (retireWalk slot closing older q).1.length = q.length := by
  induction q generalizing older with
  | nil => rfl
  | cons e rest ih =>
    unfold retireWalk
    split
    · have := ih older
      simp only [List.length_cons]
      omega
    · have := ih true
      simp only [List.length_cons]
      omega

/-- A retired entry's response joins those made in the slot before the first of a younger entry (R188). -/
theorem joinRetired_spec (order : Nat) (r : Response) (js : List Joining) : ∃ before after, js = before ++ after ∧
    joinRetired order r js = before ++ .retired order r :: after ∧ (∀ o x, .retired o x ∈ before → o ≤ order) ∧
      (after = [] ∨ ∃ o x rest, after = .retired o x :: rest ∧ order < o) := by
  induction js with
  | nil => exact ⟨[], [], rfl, rfl, by simp, .inl rfl⟩
  | cons j rest ih =>
    obtain ⟨before, after, hjs, hjoin, hbefore, hafter⟩ := ih
    cases j with
    | retired o x =>
      by_cases hlt : order < o
      · exact ⟨[], .retired o x :: rest, rfl, by simp [joinRetired, hlt], by simp, .inr ⟨o, x, rest, rfl, hlt⟩⟩
      · refine ⟨.retired o x :: before, after, by rw [hjs]; rfl, by simp [joinRetired, hlt, hjoin], ?_, hafter⟩
        intro p y hp
        rcases List.mem_cons.1 hp with heq | hp
        · cases heq
          exact Nat.not_lt.1 hlt
        · exact hbefore p y hp
    | made x | report t =>
      refine ⟨_ :: before, after, by rw [hjs]; rfl, by rw [joinRetired, hjoin]; rfl, ?_, hafter⟩
      intro p y hp
      exact hbefore p y ((List.mem_cons.1 hp).resolve_left (by simp))

theorem joinRetired_length (order : Nat) (r : Response) (js : List Joining) :
    (joinRetired order r js).length = js.length + 1 := by
  obtain ⟨before, after, rfl, hjoin, -⟩ := joinRetired_spec order r js
  rw [hjoin]
  simp only [List.length_append, List.length_cons]
  omega

theorem joinRetired_sublist (order : Nat) (r : Response) (js : List Joining) : js.Sublist (joinRetired order r js) := by
  obtain ⟨before, after, rfl, hjoin, -⟩ := joinRetired_spec order r js
  rw [hjoin]
  exact (List.sublist_cons_self _ _).append_left before

theorem joinAll_length (gone : List (Entry × EntryOutcome)) (js : List Joining) :
    (joinAll gone js).length = js.length + gone.length := by
  unfold joinAll
  induction gone generalizing js with
  | nil => rfl
  | cons p rest ih => rw [List.foldl_cons, ih, joinRetired_length, List.length_cons]; omega

theorem joinAll_sublist (gone : List (Entry × EntryOutcome)) (js : List Joining) : js.Sublist (joinAll gone js) := by
  unfold joinAll
  induction gone generalizing js with
  | nil => exact .refl js
  | cons p rest ih => exact (joinRetired_sublist _ _ js).trans (ih _)

theorem retireDone_moves (closing : Bool) (s : State) : Moves s (retireDone closing s) := by
  have hlength := retireWalk_length s.slot closing false s.queue
  refine .ite (fun _ => .refl) fun _ => .trans (.withCounters (.one (.retire _ _ (retireWalk_sublist _ _ _ _) ?_
    (joinAll_sublist _ _)))) (restartIdle_moves _)
  rw [joinAll_length]
  omega

/-! ### The write fence -/

theorem mirrorKept_of_known {s : State} {m : Mirror} (hknown : m.known = s.mirror.known) (hkept : m.kept = s.mirror.kept)
    (hfence : m.fence.isSome = true → s.mirror.fence.isSome = true ∨ holdsFence s.membership.state = true) :
    MirrorKept s m :=
  ⟨by rw [hknown], by rw [hkept], hfence, fun k hk hq => .inr ⟨k, hknown ▸ hk, hq⟩⟩

theorem dropFence_moves (s : State) : Moves s (dropFence s) :=
  .withDataUnit (.withMirror .refl (mirrorKept_of_known rfl rfl fun h => by simp at h))

theorem clearOwnFence_moves (s : State) : Moves s (clearOwnFence s) := by
  unfold clearOwnFence
  split
  · exact .ite (fun _ => dropFence_moves s) fun _ => .refl
  · exact .refl

theorem clearFenceOf_moves (tag : Tag) (s : State) : Moves s (clearFenceOf tag s) :=
  .ite (fun _ => .withDataUnit (clearOwnFence_moves s)) fun _ => .refl

theorem failWrite_moves (tag : Tag) (s : State) : Moves s (failWrite tag s) :=
  (answerEntry_moves tag .dataError s).andThen (recordFault_moves _ _)

theorem failFencedEntry_moves (s : State) : Moves s (failFencedEntry s) := by
  unfold failFencedEntry
  split
  · exact .refl
  · split
    · exact .refl
    · exact .ite (fun _ => failWrite_moves _ s) fun _ => .refl

theorem expireAlerted_moves (s : State) : Moves s (expireAlerted s) := by
  unfold expireAlerted
  split
  · exact .refl
  · exact .ite (fun _ => .withDataUnit .refl) fun _ => .refl

theorem expireFence_moves (s : State) : Moves s (expireFence s) := by
  have h := expireAlerted_moves s
  unfold expireFence
  dsimp only
  split
  · exact h
  · refine .ite (fun _ => .trans ?_ (dropFence_moves _)) fun _ => h
    exact .ite (fun _ => h.trans (failFencedEntry_moves _)) fun _ => .ite (fun _ => h) fun _ =>
      h.trans (recordFault_moves _ _ _)

/-! ### Changes of station state -/

theorem tableKept_of_sublist {t u : ReservationTable} (h : u.reservations.Sublist t.reservations) : TableKept t u :=
  fun ⟨hlength, hnodup⟩ => ⟨h.length_le.trans hlength, (h.map _).nodup hnodup⟩

theorem emptyTable_moves (s : State) : Moves s (emptyTable s) :=
  .withTable .refl (tableKept_of_sublist (List.nil_sublist _))

theorem HasKept.congr {s t : State} (h : HasKept s) (hmirror : t.mirror.kept = s.mirror.kept)
    (hmembership : t.membership = s.membership) (hloader : t.loader = s.loader) : HasKept t := by
  unfold HasKept
  rwa [hmirror, hmembership, hloader]

theorem QueueGone.congr {s t : State} (h : QueueGone s) (hqueue : t.queue = s.queue)
    (hmembership : t.membership = s.membership) : QueueGone t := by
  unfold QueueGone
  rwa [hqueue, hmembership]

theorem leaveChannel_moves {s : State} (st : StationState) (hst : st = .listening ∨ st = .detached ∨ st = .withdrawn)
    (hkept : arrivedState st = true → HasKept s) (hqueue : emptyQueueState st = true → QueueGone s) :
    Moves s (leaveChannel st s) := by
  let v := emptyTable (withdrawVote (setDuty none (stopAccount s)))
  let u := v.withDataUnit { v.dataUnit with fencedEntry := none }
  have hu : Moves s u := .withDataUnit ((((stopAccount_moves s).trans (setDuty_moves none (by simp))).trans
    (withdrawVote_moves _)).trans (emptyTable_moves _))
  have hleave : leaveChannel st s = (u.withMirror { u.mirror with known := none, fence := none }).withMembership
      { u.membership with state := st, initStep := none, drainTarget := none, leaveDoubt := false } := rfl
  rw [hleave]
  exact hu.trans (.one (.leave st hst rfl rfl
    (fun h => (hkept h).congr (by simp [u, v]) (by simp [u, v]) (by simp [u, v]))
    fun h => (hqueue h).congr (by simp [u, v]) (by simp [u, v])))

theorem enterListening_moves {s : State} (h : HasKept s) : Moves s (enterListening s) := by
  have hleave := leaveChannel_moves .listening (.inl rfl) (fun _ => h) (by simp [emptyQueueState])
  refine .trans ?_ (followRefresh_moves _)
  exact .withWork (hleave.trans (.one (.silence 0))) rfl

theorem enterWithdrawn_moves {s : State} (h : QueueGone s) : Moves s (enterWithdrawn s) :=
  leaveChannel_moves .withdrawn (.inr (.inr rfl)) (by simp [arrivedState]) fun _ => h

theorem enterDetached_moves {s : State} (hs : s.membership.state = .leaving) (hq : s.queue = []) :
    Moves s (enterDetached s) :=
  leaveChannel_moves .detached (.inr (.inl rfl)) (fun _ => .inr (.inl (by rw [hs]; rfl))) fun _ => .inl hq

theorem enterInitializing_moves {s : State} (h : s.membership.state = .listening) : Moves s (enterInitializing s) := by
  have hmove : Moves s ((s.withDataUnit { s.dataUnit with fencedEntry := none })) := .withDataUnit .refl
  exact hmove.trans (.one (.beginInit h))

theorem enterMember_moves {s : State}
    (h : s.membership.state = .listening ∧ KnownIfKept s ∨ s.membership.initStep = some .secondRefresh) :
    Moves s (enterMember s) :=
  (Moves.one (.member h)).trans (startAccount_moves _)

/-- A fold of an operation over entries is a run of moves. -/
theorem foldl_moves {op : Entry → State → State} (hop : ∀ e u, Moves u (op e u)) (es : List Entry) (s : State) :
    Moves s (es.foldl (fun s e => op e s) s) := by
  induction es generalizing s with
  | nil => exact .refl
  | cons e rest ih => exact (hop e s).trans (ih _)

theorem loseWriteRetry_moves (e : Entry) (s : State) : Moves s (loseWriteRetry e s) :=
  (failWrite_moves e.tag s).trans (clearFenceOf_moves e.tag _)

theorem loseWriteRetries_moves (s : State) : Moves s (loseWriteRetries s) := foldl_moves loseWriteRetry_moves _ s

/-- The account that a loss of trust takes before it doubts the mirror: resyncs counted, and the doubted mirror kept for the
slot (R51, R193). -/
def countTrust (s : State) : State :=
  (s.withCounters (if s.work.doubted.isSome then s.counters
    else { s.counters with resyncs := s.counters.resyncs + 1 })).withWork
      { s.work with doubted := s.work.doubted.orElse fun _ => s.mirror.known }

theorem loseTrust_eq (s : State) :
    loseTrust s = retireDone false (loseWriteRetries (withdrawVote (emptyTable (doubtMirror (countTrust s))))) := by
  unfold loseTrust countTrust
  dsimp only
  split <;> rfl

theorem countTrust_moves (s : State) : Moves s (countTrust s) := .withWork (.withCounters .refl) rfl

@[simp] theorem countTrust_frame (s : State) :
    (countTrust s).membership = s.membership ∧ (countTrust s).controller = s.controller ∧
      (countTrust s).mirror = s.mirror ∧ (countTrust s).queue = s.queue ∧ (countTrust s).table = s.table ∧
      (countTrust s).port = s.port ∧ (countTrust s).faults = s.faults ∧ (countTrust s).dataUnit = s.dataUnit :=
  ⟨rfl, rfl, rfl, rfl, rfl, rfl, rfl, rfl⟩

/-- The counting of a loss of trust does not see the membership. -/
theorem countTrust_withMembership (m : Membership) (s : State) :
    countTrust (s.withMembership m) = (countTrust s).withMembership m := rfl

/-- A loss of trust, from the move that doubts the mirror with the vote already withdrawn. -/
theorem loseTrust_moves {s : State} {m : Membership}
    (h : Move (withdrawVote (countTrust s)) (doubtMirror ((withdrawVote (countTrust s)).withMembership m))) :
    Moves s (loseTrust (s.withMembership m)) := by
  rw [loseTrust_eq, countTrust_withMembership]
  refine .trans ?_ (retireDone_moves _ _)
  refine .trans ?_ (loseWriteRetries_moves _)
  have hdoubt := ((countTrust_moves s).trans (withdrawVote_moves _)).trans (.one h)
  exact (hdoubt.trans (emptyTable_moves _)).trans (withdrawVote_moves _)

theorem enterResync_moves {s : State} (h : s.membership.state = .member) : Moves s (enterResync s) := by
  refine loseTrust_moves (m := { s.membership with state := .resync }) ?_
  have hm : (withdrawVote (countTrust s)).membership = s.membership := by simp
  rw [← hm]
  exact .resync (by rw [hm, h]) rfl

theorem setLeaveDoubt_moves {s : State} (h : s.membership.state = .leaving) : Moves s (setLeaveDoubt s) := by
  refine loseTrust_moves (m := { s.membership with leaveDoubt := true }) ?_
  have hm : (withdrawVote (countTrust s)).membership = s.membership := by simp
  rw [← hm]
  exact .leaveDoubt (by rw [hm, h])

theorem takeDoubt_moves (s : State) : Moves s (takeDoubt s) := by
  unfold takeDoubt
  split
  case h_1 h => exact enterResync_moves h
  case h_2 h => exact .ite (fun _ => .refl) fun _ => setLeaveDoubt_moves h
  case h_3 h => exact .one (.doubt h)
  all_goals exact .refl

theorem drainEntry_moves (e : Entry) (s : State) : Moves s (drainEntry e s) :=
  .ite (fun _ => .withCounters ((answerEntry_moves _ _ s).trans (recordFault_moves _ _ _)))
    fun _ => answerEntry_moves _ _ s

theorem drainEntries_moves (s : State) : Moves s (drainEntries s) := foldl_moves drainEntry_moves _ s

theorem enterDraining_moves (target : DrainTarget) (s : State) : Moves s (enterDraining target s) := by
  let v := withdrawVote (emptyTable (drainEntries s))
  let u := v.withDataUnit { v.dataUnit with fencedEntry := none }
  have hu : Moves s u :=
    .withDataUnit (((drainEntries_moves s).trans (emptyTable_moves _)).trans (withdrawVote_moves _))
  exact (hu.trans (.one (.drain target rfl))).trans (retireDone_moves false _)

theorem withdrawByDrain_moves (s : State) : Moves s (withdrawByDrain s) := by
  unfold withdrawByDrain
  split
  case h_1 h => exact .one (.retarget .withdrawn h)
  case h_2 => exact .refl
  case h_3 => exact enterDraining_moves .withdrawn s

theorem checkNumber_moves {s : State} (hkept : HasKept s) (hqueue : QueueGone s) : Moves s (checkNumber s) :=
  .ite (fun _ => (recordFault_moves _ _ s).trans (enterWithdrawn_moves (hqueue.congr (by simp) (by simp))))
    fun _ => enterListening_moves hkept

theorem badRecord_moves (detail : Nat) {s : State} (h : QueueGone s) : Moves s (badRecord detail s) :=
  (recordFault_moves _ _ s).trans (enterWithdrawn_moves (h.congr (by simp) (by simp)))

theorem resetPermission_moves {s : State} (h : s.membership.state ≠ .member) : Moves s (resetPermission s) := by
  unfold resetPermission
  split
  · exact .refl
  · exact .withController .refl ⟨id, fun hv => .inl ⟨hv, .inr h⟩, .inl⟩

theorem recheckRecord_moves {s : State} (hs : s.membership.state ≠ .member) (hq : QueueGone s) :
    Moves s (recheckRecord s) := by
  have hgone : QueueGone (resetPermission s) := hq.congr (by simp) (by simp)
  refine (resetPermission_moves hs).trans ?_
  show Moves _ (match (resetPermission s).loader.record with
    | none => badRecord 0 (resetPermission s)
    | some r => match judgeRecord r with
      | some detail => badRecord detail (resetPermission s)
      | none => if (resetPermission s).lines.presence then enterListening (resetPermission s)
        else checkNumber (resetPermission s))
  split
  · exact badRecord_moves 0 hgone
  · next r hr =>
    split
    · exact badRecord_moves _ hgone
    · next hj =>
      have hkept : HasKept (resetPermission s) := .inr (.inr ⟨r, hr, hj⟩)
      exact .ite (fun _ => enterListening_moves hkept) fun _ => checkNumber_moves hkept hgone

theorem endDrain_moves {s : State} (hs : s.membership.state = .draining) (hq : s.queue = []) : Moves s (endDrain s) := by
  unfold endDrain
  split
  · exact recheckRecord_moves (by simp [hs]) (.inl hq)
  · exact enterWithdrawn_moves (.inl hq)
  · exact enterWithdrawn_moves (.inl hq)

theorem drainDue_iff {s : State} : drainDue s = true ↔ s.membership.state = .draining ∧ s.queue = [] := by
  simp [drainDue]

theorem detachDue_iff {s : State} : detachDue s = true ↔ s.membership.state = .leaving ∧ s.queue = [] := by
  simp [detachDue]

/-! ### The Data Unit -/

theorem driveBurst_moves (s : State) : Moves s (driveBurst s) := .ite (fun _ => .refl) fun _ => .withDataUnit .refl

theorem failRead_moves (tag : Tag) (m : MemFields) (s : State) : Moves s (failRead tag m s) := by
  have h := (answerEntry_moves tag .dataError s).trans (recordFault_moves .readDataError (tagDetail tag) _)
  exact .ite (fun _ => .withTable h (tableKept_of_sublist List.filter_sublist)) fun _ => h

theorem retryRead_moves (tag : Tag) (s : State) : Moves s (retryRead tag s) := by
  refine .trans (.withCounters .refl) (changeEntry_moves ?_ ?_ _)
  · exact fun _ => rfl
  · exact fun _ _ h => h.map rfl (fun _ => rfl) fun _ => rfl

theorem judgeRead_moves (tag : Tag) (m : MemFields) (s : State) : Moves s (judgeRead tag m s) :=
  .ite (fun _ => .ite (fun _ => failRead_moves tag m s) fun _ => retryRead_moves tag s)
    fun _ => answerEntry_moves tag .ok s

theorem captureOf_mem {s : State} {e : Entry} {m : MemFields} {i : Nat} (h : captureOf s = some (e, m, i)) :
    e ∈ s.queue ∧ e.mem = some m := by
  obtain ⟨x, hx, hc⟩ := List.exists_of_findSome?_eq_some h
  unfold captureOfEntry at hc
  split at hc
  · next hm =>
    obtain ⟨_, -, heq⟩ := Option.map_eq_some_iff.1 hc
    obtain ⟨rfl, rfl, -⟩ : x = e ∧ _ ∧ _ := by simpa using heq
    exact ⟨hx, hm⟩
  · simp at hc

end Sys2Proof.Machine
end

section
/-! PROOFS. The Data Unit, the Selector, the claim phase and the observation as runs of moves. -/

namespace Sys2Proof.Machine

theorem captureBurst_moves (data : BurstData) (check : Byte) (s : State) : Moves s (captureBurst data check s) := by
  unfold captureBurst
  split
  · exact .refl
  · next e m i hc =>
    obtain ⟨hmem, hm⟩ := captureOf_mem hc
    let u := s.withWork { s.work with captured := true }
    have hwork : Moves s u := .withWork .refl rfl
    have hkept : EntriesKept u
        (u.queue.map fun x => if x.tag = e.tag then { x with mem := some (m.capture data check) } else x) := by
      refine ⟨?_, fun hq x hx => ?_⟩
      · rw [List.map_map]
        exact List.map_congr_left fun x _ => by simp only [Function.comp_apply]; split <;> rfl
      · obtain ⟨y, hy, rfl⟩ := List.mem_map.1 hx
        split
        · rintro _ ⟨⟩
          exact hq e hmem m hm
        · exact hq y hy
    have hentry := hwork.withQueue hkept
    exact .ite (fun _ => (hentry.trans (judgeRead_moves _ _ _)).trans (retireDone_moves _ _)) fun _ => hentry

theorem expireWindows_moves (s : State) : Moves s (expireWindows s) := by
  refine .withQueue .refl (entriesKept_map (fun e _ => ?_) fun e _ h => ?_) <;> split
  · rfl
  · rfl
  · exact h
  · exact h

theorem clearFenceOver_moves (e : Entry) (s : State) : Moves s (clearFenceOver e s) := by
  unfold clearFenceOver
  split
  · exact .ite (fun _ => dropFence_moves s) fun _ => .refl
  · exact .refl

theorem refuseOwnWrite_moves (s : State) : Moves s (refuseOwnWrite s) := by
  unfold refuseOwnWrite
  split
  · exact .refl
  · exact (failWrite_moves _ s).trans (clearFenceOver_moves _ _)

theorem hasKept_of_initializing {s : State} (h : s.membership.state = .initializing) : HasKept s :=
  .inr (.inl (by rw [h]; rfl))

theorem takeCommandAlert_moves (s : State) : Moves s (takeCommandAlert s) := by
  have hrecord := recordFault_moves .commandAlert (optionalDetail (issuerTwoBack s)) s
  unfold takeCommandAlert
  dsimp only
  split
  · next h => exact hrecord.trans (enterListening_moves (hasKept_of_initializing (by simpa using h)))
  · exact .trans (.ite (fun _ => hrecord) fun _ => .refl) (takeDoubt_moves _)

theorem retryWrite_moves (tag : Tag) (s : State) : Moves s (retryWrite tag s) := by
  refine .trans (.withCounters .refl) (changeEntry_moves ?_ ?_ _)
  · exact fun _ => rfl
  · exact fun _ _ h => h.map rfl (fun _ => rfl) fun _ => rfl

theorem answerAlerted_moves (e : Entry) (s : State) : Moves s (answerAlerted e s) :=
  .ite (fun _ => retryWrite_moves _ s) fun _ =>
    (Moves.one (.work { s.work with alertFailed := true } rfl)).trans (failWrite_moves _ _)

theorem judgeAlerted_moves (closing : Bool) (s : State) : Moves s (judgeAlerted closing s) := by
  unfold judgeAlerted
  split
  · exact .refl
  · refine .ite (fun _ => ?_) fun _ => .refl
    split
    · exact .refl
    · exact .ite (fun _ => answerAlerted_moves _ s) fun _ => .refl

theorem takeAttributed_moves (a : Attribution) (s : State) : Moves s (takeAttributed a s) := by
  refine .trans ?_ (retireDone_moves _ _)
  refine .trans ?_ (judgeAlerted_moves _ _)
  refine .withWork ?_ rfl
  exact .withDataUnit .refl

theorem writeCheckAlert_moves (s : State) : Moves s (writeCheckAlert s) := by
  have hwork : Moves s (s.withWork { s.work with writeAlert := true }) := .withWork .refl rfl
  refine .ite (fun _ => ?_) fun _ => hwork
  split
  · exact hwork
  · exact hwork.trans (takeAttributed_moves _ _)

theorem settleFence_moves (a : Attribution) (s : State) : Moves s (settleFence a s) := by
  refine .ite (fun hholds => .ite (fun _ => ?_) fun _ => recordFault_moves _ _ s) fun _ => .refl
  have hfail : Moves s (if s.mirror.fence.isSome then failFencedEntry s else s) :=
    .ite (fun _ => failFencedEntry_moves s) fun _ => .refl
  have hmembership : (if s.mirror.fence.isSome then failFencedEntry s else s).membership = s.membership := by
    split <;> simp
  refine .ite (fun _ => hfail.trans (dropFence_moves _)) fun _ => .withDataUnit (.withMirror hfail ?_)
  refine mirrorKept_of_known rfl rfl fun _ => .inr ?_
  rw [hmembership]
  simp only [Bool.and_eq_true] at hholds
  exact hholds.1

theorem closeAlert_moves (s : State) : Moves s (closeAlert s) := by
  unfold closeAlert
  split
  · exact .refl
  · exact (judgeAlerted_moves true s).trans (settleFence_moves _ _)

theorem commandErrorAlert_moves (s : State) : Moves s (commandErrorAlert s) := by
  have hwork : Moves s (s.withWork { s.work with commandAlert := true }) := .withWork .refl rfl
  refine .ite (fun _ => ?_) fun _ => hwork
  exact (((hwork.trans (refuseOwnWrite_moves _)).trans (takeCommandAlert_moves _)).trans
    (judgeAlerted_moves _ _)).trans (retireDone_moves _ _)

/-! ### The Selector and the Claim Unit -/

theorem selectEntry_tag (s : State) (k : KeptFields) (mirror : KnownMirror) (older : List Entry) (e : Entry) :
    (selectEntry s k mirror older e).tag = e.tag := by
  unfold selectEntry
  dsimp only
  (repeat' split) <;> rfl

theorem selectEntry_within {c : Settings} (s : State) (k : KeptFields) (mirror : KnownMirror) (older : List Entry)
    {e : Entry} (h : EntryWithin c e) : EntryWithin c (selectEntry s k mirror older e) := by
  unfold selectEntry
  dsimp only
  split
  · exact h
  · next m hm =>
    have hlimits := h m hm
    (repeat' split) <;> (rintro _ ⟨⟩; exact hlimits)

theorem selectAll_tags (s : State) (k : KeptFields) (mirror : KnownMirror) (older q : List Entry) :
    (selectAll s k mirror older q).map Entry.tag = q.map Entry.tag := by
  induction q generalizing older with
  | nil => rfl
  | cons e rest ih => rw [selectAll, List.map_cons, List.map_cons, ih, selectEntry_tag]

theorem selectAll_within {c : Settings} (s : State) (k : KeptFields) (mirror : KnownMirror) (older : List Entry)
    {q : List Entry} (h : ∀ e ∈ q, EntryWithin c e) : ∀ e ∈ selectAll s k mirror older q, EntryWithin c e := by
  induction q generalizing older with
  | nil => exact h
  | cons e rest ih =>
    obtain ⟨he, hrest⟩ := List.forall_mem_cons.1 h
    exact List.forall_mem_cons.2 ⟨selectEntry_within s k mirror older he, ih _ hrest⟩

theorem selectQueue_kept (s : State) : EntriesKept s (selectQueue s) := by
  unfold selectQueue
  split
  · split
    · exact ⟨selectAll_tags _ _ _ _ _, selectAll_within _ _ _ _⟩
    · exact ⟨rfl, id⟩
  · exact ⟨rfl, id⟩

theorem claimPhase_moves (peers : ClaimBits) (s : State) : Moves s (claimPhase peers s) :=
  .withWork (.withCounters (.withQueue (expireFence_moves s) (selectQueue_kept _))) rfl

theorem oldestOrder_spec {rs : List Reservation} {n : Nat} (h : oldestOrder rs = some n) :
    (∃ r ∈ rs, r.setOrder = n) ∧ ∀ r ∈ rs, n ≤ r.setOrder := by
  induction rs generalizing n with
  | nil => simp [oldestOrder] at h
  | cons r rest ih =>
    unfold oldestOrder at h
    cases hr : oldestOrder rest with
    | none =>
      have hrest : rest = [] := by
        cases rest with
        | nil => rfl
        | cons x xs => unfold oldestOrder at hr; split at hr <;> simp at hr
      simp_all
    | some k =>
      obtain ⟨⟨x, hx, hxk⟩, hmin⟩ := ih hr
      simp only [hr, Option.some.injEq] at h
      constructor
      · rcases Nat.le_total r.setOrder k with hle | hle
        · exact ⟨r, by simp, by omega⟩
        · exact ⟨x, by simp [hx], by omega⟩
      · refine List.forall_mem_cons.2 ⟨by omega, fun y hy => ?_⟩
        have := hmin y hy
        omega

theorem oldestOrder_isSome {rs : List Reservation} (h : rs ≠ []) : ∃ n, oldestOrder rs = some n := by
  cases rs with
  | nil => exact absurd rfl h
  | cons r rest =>
    unfold oldestOrder
    split
    · exact ⟨_, rfl⟩
    · exact ⟨_, rfl⟩

/-- The eviction removes one reservation of its set_order where there is one (R164). -/
theorem evict_spec {n : Nat} {rs : List Reservation} (h : ∃ r ∈ rs, r.setOrder = n) :
    ∃ before r after, rs = before ++ r :: after ∧ r.setOrder = n ∧ evict n rs = before ++ after := by
  induction rs with
  | nil => simp at h
  | cons x rest ih =>
    by_cases hx : x.setOrder = n
    · exact ⟨[], x, rest, rfl, hx, by simp [evict, hx]⟩
    · obtain ⟨r, hr, hrn⟩ := h
      have hrest : ∃ r ∈ rest, r.setOrder = n := by
        rcases List.mem_cons.1 hr with rfl | hr
        · exact absurd hrn hx
        · exact ⟨r, hr, hrn⟩
      obtain ⟨before, r, after, rfl, hn, he⟩ := ih hrest
      exact ⟨x :: before, r, after, rfl, hn, by simp [evict, hx, he]⟩

/-- Room is made of a full list by the eviction of one of smallest set_order (R164). -/
theorem makeRoom_full {rs : List Reservation} (h : 6 ≤ rs.length) :
    ∃ before r after, rs = before ++ r :: after ∧ (∀ x ∈ rs, r.setOrder ≤ x.setOrder) ∧ makeRoom rs = before ++ after := by
  obtain ⟨n, hn⟩ := oldestOrder_isSome (rs := rs) (by rintro rfl; simp at h)
  obtain ⟨hmem, hmin⟩ := oldestOrder_spec hn
  obtain ⟨before, r, after, hrs, rfl, hevict⟩ := evict_spec hmem
  refine ⟨before, r, after, hrs, hmin, ?_⟩
  unfold makeRoom
  rw [if_neg (by simpa [Config.tableSize] using h), hn]
  exact hevict

theorem makeRoom_room {rs : List Reservation} (h : rs.length < 6) : makeRoom rs = rs := if_pos h

theorem makeRoom_sublist (rs : List Reservation) : (makeRoom rs).Sublist rs := by
  by_cases h : 6 ≤ rs.length
  · obtain ⟨before, r, after, hrs, -, hroom⟩ := makeRoom_full h
    rw [hroom, hrs]
    exact (List.sublist_cons_self r after).append_left before
  · rw [makeRoom_room (by omega)]

theorem makeRoom_length {rs : List Reservation} (h : rs.length ≤ 6) : (makeRoom rs).length ≤ 5 := by
  by_cases hfull : 6 ≤ rs.length
  · obtain ⟨before, r, after, rfl, -, hroom⟩ := makeRoom_full hfull
    rw [hroom]
    simp only [List.length_append, List.length_cons] at h ⊢
    omega
  · rw [makeRoom_room (by omega)]
    omega

theorem setFor_kept (t : ReservationTable) (m : MemFields) (slot : Nat) : TableKept t (t.setFor m slot) := by
  have hdrop : (t.drop m.thread).reservations.Sublist t.reservations := List.filter_sublist
  unfold ReservationTable.setFor
  dsimp only
  split
  · exact tableKept_of_sublist hdrop
  · rintro ⟨hlength, hnodup⟩
    have hroom := makeRoom_length (hdrop.length_le.trans hlength)
    refine ⟨by rw [List.length_append]; exact Nat.add_le_add_right hroom 1, ?_⟩
    rw [List.map_append, List.map_singleton, List.nodup_append]
    refine ⟨(((makeRoom_sublist _).trans hdrop).map _).nodup hnodup, by simp, fun a ha b hb => ?_⟩
    obtain ⟨r, hr, rfl⟩ := List.mem_map.1 ha
    have hother := List.mem_filter.1 ((makeRoom_sublist _).mem hr)
    simp_all

theorem issueTable_kept (s : State) (e : Entry) (m : MemFields) : TableKept s.table (issueTable s e m) := by
  unfold issueTable
  split
  · exact setFor_kept _ _ _
  · split
    · exact tableKept_of_sublist List.filter_sublist
    · exact id
  · exact id
  · exact id

theorem issueColumn_moves (e : Entry) (m : MemFields) (s : State) : Moves s (issueColumn e m s) := by
  refine .trans (.withTable .refl (issueTable_kept s e m)) (changeEntry_moves ?_ ?_ _)
  · exact fun _ => rfl
  · exact fun _ _ h => h.map rfl (fun _ => rfl) fun _ => rfl

theorem takeIssue_moves (c : Candidate) (s : State) : Moves s (takeIssue c s) := by
  unfold takeIssue
  split
  · refine .ite (fun _ => ?_) fun _ => .refl
    split
    · exact .refl
    · split
      · exact .refl
      · exact issueColumn_moves _ _ s
  all_goals
    split
    · exact .withCounters .refl
    · exact .refl

theorem claimFault_moves (sampled : LaneBits) (s : State) : Moves s (claimFault sampled s) := by
  refine .trans ?_ (withdrawByDrain_moves _)
  exact .withWork (recordFault_moves _ _ s) rfl

theorem readBack_moves (sampled : LaneBits) (s : State) : Moves s (readBack sampled s) := by
  unfold readBack
  split
  · exact .refl
  · have hwork : Moves s (s.withWork { s.work with readBack := some sampled }) := .withWork .refl rfl
    exact .ite (fun _ => hwork.trans (takeIssue_moves _ _)) fun _ => hwork.trans (claimFault_moves _ _)

theorem startSlot_moves (s : State) : Moves s (startSlot s) := (expireFence_moves s).trans (driveBurst_moves _)

theorem defaultClaim_moves (s : State) : Moves s (defaultClaim s) :=
  .ite (fun _ => .refl) fun _ => claimPhase_moves 0 s

theorem defaultReadBack_moves (s : State) : Moves s (defaultReadBack s) := by
  unfold defaultReadBack
  split
  · exact .refl
  · exact readBack_moves _ s

theorem reachEnd_moves (s : State) : Moves s (reachEnd s) :=
  .ite (fun _ => .refl) fun _ => (((startSlot_moves s).trans (defaultClaim_moves _)).trans
    (defaultReadBack_moves _)).trans (markEnded_moves _ _ _)

theorem claimBefore_moves (w : LaneBits) (s : State) : Moves s (claimBefore w s) := by
  refine .ite (fun _ => .refl) fun _ => ?_
  split
  · exact claimPhase_moves 0 s
  · exact .ite (fun _ => claimPhase_moves 0 s) fun _ => claimPhase_moves _ s

theorem reachObservation_moves (w : LaneBits) (s : State) : Moves s (reachObservation w s) :=
  .ite (fun _ => .refl) fun _ => (((startSlot_moves s).trans (claimBefore_moves w _)).trans
    (readBack_moves w _)).trans (markEnded_moves _ _ _)

theorem missedEvents_moves (e : Entry) (s : State) : Moves s (missedEvents e s) := by
  refine .ite (fun _ => (loseWriteRetry_moves e s).trans (retireDone_moves _ _)) fun _ => ?_
  split
  · exact (drainEntry_moves e s).trans (retireDone_moves _ _)
  · exact .refl

theorem takeBackColumn_moves (tag : Tag) (s : State) : Moves s (takeBackColumn tag s) := by
  unfold takeBackColumn
  split
  · exact .refl
  · refine .ite (fun _ => .trans (changeEntry_moves ?_ ?_ s) (missedEvents_moves _ _)) fun _ => .refl
    · exact fun _ => rfl
    · exact fun _ _ h => h.map rfl (fun _ => rfl) fun _ => rfl

theorem takeBackIssue_moves (c : Candidate) (s : State) : Moves s (takeBackIssue c s) := by
  unfold takeBackIssue
  split
  · exact .ite (fun _ => takeBackColumn_moves _ s) fun _ => .refl
  all_goals
    split
    · exact .withCounters .refl
    · exact .refl

theorem lateReadBack_moves (sampled : LaneBits) (s : State) : Moves s (lateReadBack sampled s) := by
  refine .ite (fun _ => ?_) fun _ => .refl
  have hwork : Moves s (s.withWork { s.work with presumed := false, readBack := some sampled }) := .withWork .refl rfl
  split
  · exact hwork
  · exact .ite (fun _ => hwork) fun _ => (hwork.trans (takeBackIssue_moves _ _)).trans (claimFault_moves _ _)

/-! ### The observation of a command phase -/

theorem ageStep_within (c : Settings) {m : MemFields} (hguard : m.guardCount ≤ c.guardMax) :
    (ageStep c m).age ≤ c.ageMax ∧ (ageStep c m).guardCount ≤ c.guardMax := by
  unfold ageStep
  dsimp only
  constructor
  · exact Nat.min_le_right _ _
  · split
    · dsimp only
      split <;> omega
    · exact hguard

theorem ageEntry_within {c : Settings} {e : Entry} (o : Observed) (h : EntryWithin c e) :
    EntryWithin c (ageEntry c o e) := by
  unfold ageEntry
  split
  · exact h
  · next m hm =>
    split
    · exact h
    · split
      · rintro _ ⟨⟩
        exact ageStep_within c (h m hm).2
      · exact h

theorem ageEntry_tag (c : Settings) (o : Observed) (e : Entry) : (ageEntry c o e).tag = e.tag := by
  unfold ageEntry
  (repeat' split) <;> rfl

theorem ageQueue_moves (o : Observed) (s : State) : Moves s (ageQueue o s) :=
  .withQueue .refl (entriesKept_map (fun e _ => ageEntry_tag _ o e) fun _ _ h => ageEntry_within o h)

theorem giveMemory_moves (o : Observed) (s : State) : Moves s (giveMemory o s) :=
  .one (.memory _ (ChannelMemory.take_ok _ o))

/-- The kept fields changed in place. -/
theorem mirrorKept_of_map {s : State} (f : KeptFields → KeptFields) :
    MirrorKept s { s.mirror with kept := s.mirror.kept.map f } :=
  ⟨rfl, by simp, .inl, fun k hk hq => .inr ⟨k, hk, hq⟩⟩

theorem moveIssuers_moves (o : Observed) (s : State) : Moves s (moveIssuers o s) :=
  .withMirror .refl (mirrorKept_of_map _)

theorem heard_moves (o : Observed) (s : State) : Moves s (heard o s) := by
  refine .trans ?_ (moveIssuers_moves o _)
  refine .trans ?_ (ageQueue_moves o _)
  exact .withWork (giveMemory_moves o s) rfl

theorem noteCommand_moves (i : StationNo) (c : LaneCommand) (s : State) : Moves s (noteCommand i c s) := by
  unfold noteCommand
  split
  · next check bank column bursts =>
    have htable : Moves s (s.withTable
        (s.table.observeWrite s.timing.writeLatency s.slot (mirrorRow s bank) check bank column bursts)) :=
      .withTable .refl (tableKept_of_sublist List.filter_sublist)
    have hnote (u : State) : Moves u (noteAttribution i check bank column bursts u) := by
      unfold noteAttribution
      refine .withDataUnit ?_
      exact .withWork .refl rfl
    exact .ite (fun _ => (htable.andThen hnote).trans (dropFence_moves _)) fun _ => htable.andThen hnote
  · exact .refl

/-- A command leaves a quiet hold as it was, but for CLOSE_ALL(QUIET), which gives it the quiet line's level (R70, R71). -/
theorem KnownMirror.apply_quietHold {m : KnownMirror} {t : Timing} {slot : Nat} {quiet ready : Bool} {c : LaneCommand}
    (h : (m.apply t slot quiet ready c).quietHold = true) : quiet = true ∨ m.quietHold = true := by
  unfold KnownMirror.apply at h
  rw [(KnownMirror.sampleReady_frame _ _).2.2] at h
  split at h
  case h_3 check purpose d => cases purpose <;> simp_all [KnownMirror.purposeEffect, KnownMirror.mapBanks]
  all_goals simp_all [KnownMirror.mapBanks]

theorem applyMirror_moves (c : LaneCommand) (s : State) : Moves s (applyMirror c s) := by
  refine .withMirror .refl ⟨by simp, by simp, .inl, fun k hk hq => ?_⟩
  obtain ⟨j, hj, rfl⟩ := Option.map_eq_some_iff.1 hk
  exact (KnownMirror.apply_quietHold hq).imp_right fun h => ⟨j, hj, h⟩

theorem isSync_iff {c : LaneCommand} : isSync c = true ↔ ∃ d, syncDigest c = some d := by
  simp [isSync, Option.isSome_iff_exists]

theorem syncMirror_isSome {t : Timing} {slot : Nat} {quiet ready : Bool} {k : KeptFields} {c : LaneCommand}
    (h : isSync c = true) : (syncMirror t slot quiet ready k c).isSome = true := by
  cases c <;> simp_all [isSync, syncDigest, syncMirror]

/-- After a sync point the mirror is known, where there are kept fields (R74). -/
theorem makeKnown_known {s : State} {c : LaneCommand} (h : isSync c = true) : KnownIfKept (makeKnown c s) := by
  unfold KnownIfKept makeKnown
  cases hknown : s.mirror.known with
  | some m => simp [hknown]
  | none =>
    cases hkept : s.mirror.kept with
    | none => simp [hkept]
    | some k => simp [syncMirror_isSome h]

theorem listenSync_moves {s : State} (i : StationNo) {c : LaneCommand} {d : Digest} (hc : syncDigest c = some d)
    (hs : s.membership.state = .listening) : Moves s (listenSync i c d s) := by
  have hlearn : Moves s (makeKnown c s) := .one (.learn c (.inl hs))
  refine .ite (fun _ => .ite (fun _ => hlearn.trans (enterMember_moves (.inl ⟨by simpa using hs, ?_⟩))) fun _ => hlearn)
    fun _ => (recordFault_moves _ _ s).trans (withdrawByDrain_moves _)
  exact makeKnown_known (isSync_iff.2 ⟨d, hc⟩)

theorem listenCommand_moves {s : State} (i : StationNo) (fault : Bool) (c : LaneCommand)
    (hs : s.membership.state = .listening) : Moves s (listenCommand i fault c s) := by
  let u := s.withMembership { s.membership with silence := 0 }
  let v := if fault || isModeSet c then doubtMirror u else u
  have hu : Moves s u := .one (.silence 0)
  have hv : Moves s v := .ite (fun _ => hu.trans (.one (.doubt hs))) fun _ => hu
  have hvs : v.membership.state = .listening := by
    have : v.membership = u.membership := by unfold v; split <;> simp
    rw [this]
    exact hs
  show Moves s (match syncDigest c with | none => v | some d => listenSync i c d v)
  split
  · exact hv
  · next d hd => exact hv.trans (listenSync_moves i hd hvs)

end Sys2Proof.Machine
end

section
/-! PROOFS. The commands, the lines, the end of a slot and the request path as runs of moves; every step as a run of turns. -/

namespace Sys2Proof.Machine

theorem advanceInit_moves {s : State} {c : LaneCommand} (hs : s.membership.state = .initializing)
    (hknown : isSync c = true → KnownIfKept s) : Moves s (advanceInit c s) := by
  unfold advanceInit
  split
  · exact .refl
  · next st hst =>
    refine .ite (fun hc => ?_) fun _ => .refl
    split
    · next n hn =>
      refine .one (.advance st n hst hn hs ?_)
      rintro rfl
      exact hknown (by rw [hc]; rfl)
    · next hn => exact enterMember_moves (.inr (by cases st <;> simp_all [InitStep.next]))

theorem initializeCommand_moves {s : State} (i : StationNo) (c : LaneCommand)
    (hs : s.membership.state = .initializing) : Moves s (initializeCommand i c s) := by
  refine .ite (fun _ => ?_) fun _ => enterListening_moves (hasKept_of_initializing hs)
  split
  · have hs' : (makeKnown c s).membership.state = .initializing := by simpa using hs
    exact (Moves.one (.learn c (.inr hs))).trans (advanceInit_moves hs' makeKnown_known)
  · next hsync => exact advanceInit_moves hs fun h => absurd h hsync

theorem endDoubt_moves (c : LaneCommand) (s : State) : Moves s (endDoubt c s) := by
  refine .ite (fun hsync => ?_) fun _ => .refl
  split
  · next hs =>
    exact .withWork (.withController (.one (.resume c hsync hs)) (controllerKept_of_debt id rfl rfl rfl)) rfl
  · next hs => exact .ite (fun _ => .one (.trust c hsync hs)) fun _ => .refl
  · exact .refl

theorem stationCommand_moves (i : StationNo) (fault : Bool) (c : LaneCommand) (s : State) :
    Moves s (stationCommand i fault c s) := by
  have hfault : Moves s (if fault then takeDoubt (recordFault .mirrorFault (stationDetail i) s) else s) :=
    .ite (fun _ => (recordFault_moves _ _ s).trans (takeDoubt_moves _)) fun _ => .refl
  have hmode : Moves s (if isModeSet c then takeDoubt (if fault then takeDoubt (recordFault .mirrorFault
      (stationDetail i) s) else s) else (if fault then takeDoubt (recordFault .mirrorFault (stationDetail i) s) else s)) :=
    .ite (fun _ => hfault.trans (takeDoubt_moves _)) fun _ => hfault
  unfold stationCommand
  split
  · next hs => exact listenCommand_moves i fault c hs
  · next hs => exact initializeCommand_moves i c hs
  iterate 3 exact hmode.trans (endDoubt_moves c _)
  all_goals exact .refl

theorem takeCommand_moves (i : StationNo) (c : LaneCommand) (s : State) : Moves s (takeCommand i c s) := by
  refine .trans ?_ (followRefresh_moves _)
  refine .trans ?_ (stationCommand_moves i _ c _)
  exact ((noteCommand_moves i c s).trans (applyMirror_moves c _)).trans (accountCommand_moves c _)

theorem takeUndefined_moves (i : StationNo) (s : State) : Moves s (takeUndefined i s) := by
  unfold takeUndefined
  split
  · exact .one (.silence 0)
  · next hs => exact .ite (fun _ => .refl) fun _ => enterListening_moves (hasKept_of_initializing hs)
  · exact .refl

theorem takeEmpty_moves (s : State) : Moves s (takeEmpty s) := .ite (fun _ => .one (.silence _)) fun _ => .refl

theorem takeObserved_moves (o : Observed) (s : State) : Moves s (takeObserved o s) := by
  cases o with
  | empty => exact takeEmpty_moves s
  | undefined i => exact takeUndefined_moves i s
  | command i c => exact takeCommand_moves i c s

theorem observe_moves (o : Observed) (s : State) : Moves s (observe o s) := by
  refine .ite (fun _ => ?_) fun _ => .trans ?_ (followRefresh_moves _)
  · refine .trans ?_ (retireDone_moves _ _)
    refine .trans ?_ (judgeAlerted_moves _ _)
    exact (heard_moves o s).trans (takeObserved_moves o _)
  · exact .withWork (giveMemory_moves o s) rfl

/-! ### The lines -/

theorem settleDuty_moves (s : State) : Moves s (settleDuty s) := by
  unfold settleDuty
  split
  · next hd => exact setDuty_moves _ fun _ => .inl (by rw [hd]; rfl)
  · exact .refl

theorem takeRise_moves (n : StationNo) (s : State) : Moves s (takeRise n s) := by
  refine .trans ?_ (followRefresh_moves _)
  refine .trans ?_ (settleDuty_moves _)
  exact .one (.roster _)

theorem dutyFall_moves (n : StationNo) (s : State) : Moves s (dutyFall n s) := by
  refine .ite (fun hd => .trans ?_ (setDuty_moves _ fun _ => .inl (by simp [hd]))) fun _ => .refl
  exact .withWork .refl rfl

theorem fenceFall_moves (n : StationNo) (s : State) : Moves s (fenceFall n s) := by
  unfold fenceFall
  split
  · exact .refl
  · refine .ite (fun _ => .trans ?_ (dropFence_moves _)) fun _ => .refl
    exact .ite (fun _ => .refl) fun _ => recordFault_moves _ _ s

theorem alertedFall_moves (n : StationNo) (s : State) : Moves s (alertedFall n s) := by
  unfold alertedFall
  split
  · exact .refl
  · exact .ite (fun _ => .withDataUnit .refl) fun _ => .refl

theorem takeFall_moves (n : StationNo) (s : State) : Moves s (takeFall n s) := by
  refine .trans ?_ (followRefresh_moves _)
  refine .trans ?_ (dutyFall_moves n _)
  refine .trans ?_ (alertedFall_moves n _)
  refine .trans ?_ (fenceFall_moves n _)
  exact (Moves.one (.work { s.work with fell := s.work.fell ||| stationBit n } rfl)).trans (.one (.roster _))

theorem readyHigh_moves (s : State) : Moves s (readyHigh s) := by
  unfold readyHigh
  split
  · next hs => exact .ite (fun hk => enterMember_moves (.inl ⟨hs, fun _ => hk⟩)) fun _ => .refl
  · next hs => exact enterListening_moves (hasKept_of_initializing hs)
  · exact .refl

/-- The mirror with its known part changed in place, where no quiet hold is set. -/
theorem mirrorKept_of_knownMap {s : State} (f : KnownMirror → KnownMirror)
    (hf : ∀ m, (f m).quietHold = true → m.quietHold = true) :
    MirrorKept s { s.mirror with known := s.mirror.known.map f } := by
  refine ⟨by simp, rfl, .inl, fun k hk hq => .inr ?_⟩
  obtain ⟨j, hj, rfl⟩ := Option.map_eq_some_iff.1 hk
  exact ⟨j, hj, hf j hq⟩

theorem takeReady_moves (high : Bool) (s : State) : Moves s (takeReady high s) := by
  have hsample : Moves s ((s.withLines { s.lines with readySample := high }).withMirror
      { s.mirror with known := s.mirror.known.map fun m => m.sampleReady high }) :=
    .withMirror (.one (.ready high)) (mirrorKept_of_knownMap _ fun m h => by simpa using h)
  exact .ite (fun _ => hsample.trans (readyHigh_moves _)) fun _ => hsample

/-! ### The end of a slot -/

theorem defaultSamples_moves (s : State) : Moves s (defaultSamples s) := by
  let u := if s.lines.presence && !inRoster s.membership.roster s.number then takeRise s.number s else s
  let v := if u.lines.ready && !u.lines.readySample then takeReady true u else u
  have hu : Moves s u := .ite (fun _ => takeRise_moves _ s) fun _ => .refl
  have hv : Moves s v := .ite (fun _ => hu.trans (takeReady_moves _ _)) fun _ => hu
  exact .ite (fun _ => hv.trans (.one (.quiet false))) fun _ => hv

theorem defaultCommandAlert_moves (s : State) : Moves s (defaultCommandAlert s) :=
  .ite (fun _ => commandErrorAlert_moves s) fun _ => .refl

theorem defaultWriteAlert_moves (s : State) : Moves s (defaultWriteAlert s) :=
  .ite (fun _ => writeCheckAlert_moves s) fun _ => .refl

theorem defaultObserve_moves (s : State) : Moves s (defaultObserve s) :=
  .ite (fun _ => .refl) fun _ => observe_moves _ s

theorem defaultCapture_moves (s : State) : Moves s (defaultCapture s) :=
  .ite (fun _ => .refl) fun _ => captureBurst_moves _ _ s

theorem defaultWindows_moves (s : State) : Moves s (defaultWindows s) :=
  .ite (fun _ => expireWindows_moves s) fun _ => .refl

theorem listenWaitDue_listening {s : State} (h : listenWaitDue s = true) : s.membership.state = .listening := by
  simp only [listenWaitDue, Bool.and_eq_true, decide_eq_true_eq] at h
  exact h.1.1.1

theorem defaultState_moves (s : State) : Moves s (defaultState s) := by
  let u := if listenWaitDue s then enterInitializing s else s
  let v := if detachDue u then enterDetached u else u
  have hu : Moves s u := .ite (fun h => enterInitializing_moves (listenWaitDue_listening h)) fun _ => .refl
  have hv : Moves s v := .ite (fun h => by
    obtain ⟨hs, hq⟩ := detachDue_iff.1 h
    exact hu.trans (enterDetached_moves hs hq)) fun _ => hu
  refine .ite (fun h => ?_) fun _ => hv
  obtain ⟨hs, hq⟩ := drainDue_iff.1 h
  exact hv.trans (endDrain_moves hs hq)

theorem completeRead_moves {s : State} (r : Record) (hs : s.membership.state = .loading) :
    Moves s (completeRead r s) := by
  have hgone : emptyQueueState s.membership.state = true := by rw [hs]; rfl
  unfold completeRead
  dsimp only
  split
  · next hj =>
    refine .trans ?_ (badRecord_moves _ (.inr hgone))
    exact .withWork (.one (.record r (by simp [hj]))) rfl
  · let w := { s.work with arrived := true, ended := true }
    let u := (s.withWork w).withLoader
      { s.loader with
        record := some r, settings := some (recordSettings r), selected := false, serialOut := false, serialClock := false }
    let v := u.withMirror { s.mirror with kept := some (arrivalValues (recordTiming r) s.slot) }
    have hv : Moves s v := (Moves.one (.work w rfl)).trans (.one (.accept _ _ hs))
    have hvs : v.membership = s.membership := rfl
    refine (hv.trans (resetPermission_moves (by rw [hvs, hs]; simp))).trans (checkNumber_moves (.inl ?_) (.inr ?_))
    · simp [v]
    · simpa [hvs] using hgone

theorem defaultRecord_moves (s : State) : Moves s (defaultRecord s) := by
  unfold defaultRecord
  split
  · next hs => exact .ite (fun _ => completeRead_moves _ hs) fun _ => .refl
  · exact .refl

theorem settleSlot_moves (s : State) : Moves s (settleSlot s) := by
  refine .trans ?_ (settleAccount_moves _)
  refine .trans ?_ (recastVote_moves _)
  refine .trans ?_ (countIdle_moves _)
  refine .trans ?_ (defaultState_moves _)
  refine .trans ?_ (retireDone_moves _ _)
  refine .trans ?_ (countPeriod_moves _)
  refine .trans ?_ (closeAlert_moves _)
  refine .trans ?_ (defaultWindows_moves _)
  refine .trans ?_ (defaultCapture_moves _)
  refine .trans ?_ (defaultObserve_moves _)
  refine .trans ?_ (defaultWriteAlert_moves _)
  refine .trans ?_ (defaultCommandAlert_moves _)
  refine .trans ?_ (defaultRecord_moves _)
  exact (reachEnd_moves s).trans (defaultSamples_moves _)

/-! ### What a run of moves leaves of the request path -/

/-- A move makes no entry and no response, takes no word of the request path and never switches the station off. -/
def OwesNoMore (s t : State) : Prop :=
  t.queue.length ≤ s.queue.length ∧ owedResponses t ≤ owedResponses s ∧
    (t.membership.state = .off → s.membership.state = .off) ∧ t.port.take = s.port.take ∧
    t.work.positions = s.work.positions

theorem Move.owesNoMore {s t : State} (h : Move s t) : OwesNoMore s t := by
  cases h with
  | work w hw => exact ⟨le_rfl, le_rfl, id, rfl, hw⟩
  | entries q hq =>
    have hlength : q.length = s.queue.length := by simpa using congrArg List.length hq.1
    exact ⟨hlength.le, by simp [owedResponses, hlength], id, rfl, rfl⟩
  | retire q js hq hjs =>
    refine ⟨hq.length_le, ?_, id, rfl, rfl⟩
    simp only [owedResponses, State.withPort_port, State.withPort_queue, State.withQueue_queue]
    omega
  | leave st hst => exact ⟨le_rfl, le_rfl, by rcases hst with rfl | rfl | rfl <;> simp, rfl, rfl⟩
  | drain | beginInit | member | resync | leaving => exact ⟨le_rfl, le_rfl, by simp [setState], rfl, rfl⟩
  | resume => exact ⟨by simp, by simp [owedResponses], by simp [setState], by simp, by simp⟩
  | leaveDoubt | doubt | learn | trust => exact ⟨by simp, by simp [owedResponses], by simp, by simp, by simp⟩
  | faults | counters | dataUnit | memory | table | progress | controller | mirror | ready | quiet | roster | silence
  | record | accept | retarget | advance => exact ⟨le_rfl, le_rfl, id, rfl, rfl⟩

theorem Moves.owesNoMore {s t : State} (h : Moves s t) : OwesNoMore s t := by
  induction h with
  | refl => exact ⟨le_rfl, le_rfl, id, rfl, rfl⟩
  | tail _ hmove ih =>
    obtain ⟨hqueue, howed, hoff, htake, hpositions⟩ := ih
    obtain ⟨hqueue', howed', hoff', htake', hpositions'⟩ := hmove.owesNoMore
    exact ⟨hqueue'.trans hqueue, howed'.trans howed, hoff ∘ hoff', htake'.trans htake, hpositions'.trans hpositions⟩

/-- A move takes away no response made in the slot. -/
theorem Move.joining_sublist {s t : State} (h : Move s t) : s.port.joining.Sublist t.port.joining := by
  cases h with
  | retire q js hq hjs hold => exact hold
  | resync | leaveDoubt | doubt | learn | resume | trust | leaving => simp [setState]
  | _ => exact .refl _

theorem Moves.joining_sublist {s t : State} (h : Moves s t) : s.port.joining.Sublist t.port.joining := by
  induction h with
  | refl => exact .refl _
  | tail _ hmove ih => exact ih.trans hmove.joining_sublist

theorem Moves.takesWord {s t : State} (h : Moves s t) : takesWord t = takesWord s := by
  obtain ⟨-, -, -, htake, hpositions⟩ := h.owesNoMore
  unfold Machine.takesWord
  rw [htake, hpositions]

/-! ### The turns of a step -/

/-- What a word of the request path does once its position is used: nothing more, one response, or one entry (R186). -/
inductive Reply : State → State → Prop
  | silent {u : State} : Reply u u
  | respond {u : State} (j : Joining) : Reply u (u.withPort { u.port with joining := u.port.joining ++ [j] })
  | enqueue {u : State} (e : Entry) (hstate : stateRefusal u.membership.state = none) (htag : e.tag ∉ queueTags u)
    (hroom : u.queue.length < 16) (hwithin : ∀ m, e.mem = some m → m.age = 0 ∧ m.guardCount = 0) :
    Reply u (joinQueue e u)

/-- One turn of the machine: a move inside a slot, a word of the request path with all it does, words of the response path
sent, the turn of a slot, or a reset and its release. -/
inductive Turn : State → State → Prop
  | move {s t : State} (h : Move s t) : Turn s t
  | word {s u t : State} (h : takesWord s = true) (hmoves : Moves (usePosition s) u) (hreply : Reply u t) : Turn s t
  | send {s : State} (p : ClientPort) (htake : p.take = s.port.take) (hjoining : p.joining = s.port.joining)
    (hresponses : p.responses.length ≤ s.port.responses.length) : Turn s (s.withPort p)
  | slot {s : State} (m : ChannelMemory) (h : contentsOk s.memory.contents = true → contentsOk m.contents = true) :
    Turn s (openSlot ((joinResponses s).withMemory m))
  | offSlot {s : State} (h : s.membership.state = .off) : Turn s (s.withWork SlotWork.fresh)
  | reset {s : State} (w : SlotWork) : Turn s (((State.reset.withPending s.pending).withMemory s.memory).withWork w)
  | release {s : State} (straps : StationNo) (presence : StationSet) (h : s.membership.state = .off) :
    Turn s (releaseReset straps presence s)

/-- A run of turns. -/
def Turns (s t : State) : Prop := Relation.ReflTransGen Turn s t

theorem Turns.refl {s : State} : Turns s s := Relation.ReflTransGen.refl

theorem Turns.one {s t : State} (h : Turn s t) : Turns s t := Relation.ReflTransGen.single h

theorem Turns.trans {s t u : State} (h : Turns s t) (h' : Turns t u) : Turns s u := Relation.ReflTransGen.trans h h'

theorem Moves.turns {s t : State} (h : Moves s t) : Turns s t := by
  induction h with
  | refl => exact .refl
  | tail _ hmove ih => exact ih.trans (.one (.move hmove))

theorem Turns.ite {s t u : State} {p : Prop} [Decidable p] (ht : p → Turns s t) (hu : ¬p → Turns s u) :
    Turns s (if p then t else u) := by
  split
  · exact ht ‹_›
  · exact hu ‹_›

/-! ### The end of a slot -/

theorem endSlot_of_off {s : State} (h : s.membership.state = .off) :
    endSlot s = (s.withMemory (s.memory.endSlot s.work.peerBurst)).withWork SlotWork.fresh := by
  unfold endSlot
  rw [h]

theorem endSlot_of_ne_off {s : State} (h : s.membership.state ≠ .off) :
    endSlot s = openSlot ((finishSlot s).withMemory ((finishSlot s).memory.endSlot (drivenSlot (finishSlot s)))) := by
  unfold endSlot
  split
  · next hoff => exact absurd hoff h
  · rfl

theorem endSlot_turns (s : State) : Turns s (endSlot s) := by
  by_cases h : s.membership.state = .off
  · rw [endSlot_of_off h]
    exact (Moves.one (.memory _ (ChannelMemory.endSlot_ok _))).turns.trans (.one (.offSlot h))
  · have hfinish : finishSlot s = joinResponses (settleSlot s) := rfl
    rw [endSlot_of_ne_off h, hfinish]
    refine (settleSlot_moves s).turns.trans (.one (.slot _ fun hok => ChannelMemory.endSlot_ok _ ?_))
    simpa using hok

theorem beforeOnce_turns (taken : Bool) (s : State) : Turns s (beforeOnce taken s) :=
  .ite (fun _ => endSlot_turns s) fun _ => .refl

/-! ### The slots of the read (R26) -/

theorem ite_loading {p : Prop} [Decidable p] {s t : State} (hs : s.membership.state = .loading)
    (ht : t.membership.state = .loading) : (if p then s else t).membership.state = .loading := by
  split
  · exact hs
  · exact ht

theorem defaultSamples_loading {s : State} (h : s.membership.state = .loading) :
    (defaultSamples s).membership.state = .loading := by
  have hrise (u : State) (hu : u.membership.state = .loading) : (takeRise u.number u).membership.state = .loading := by
    simpa [takeRise, setRoster] using hu
  have hready (u : State) (hu : u.membership.state = .loading) : (takeReady true u).membership.state = .loading := by
    simp [takeReady, readyHigh, hu]
  have hquiet (u : State) (hu : u.membership.state = .loading) : (takeQuiet false u).membership.state = .loading := by
    simpa using hu
  have hu := ite_loading (p := (s.lines.presence && !inRoster s.membership.roster s.number) = true) (hrise s h) h
  unfold defaultSamples
  exact ite_loading (hquiet _ (ite_loading (hready _ hu) hu)) (ite_loading (hready _ hu) hu)

theorem defaultRecord_early {s : State} (h : s.slot < 719) : defaultRecord s = s := by
  have hread : readOver s.slot = false := by simp [readOver, Config.recordReadSlots]; omega
  unfold defaultRecord
  split
  · simp [hread]
  · rfl

theorem takesLane_loading {s : State} (h : s.membership.state = .loading) : takesLane s = false := by
  simp [takesLane, h]

theorem defaultCommandAlert_loading {s : State} (h : s.membership.state = .loading) :
    (defaultCommandAlert s).membership.state = .loading := by
  have hlane : takesLane (s.withWork { s.work with commandAlert := true }) = false := takesLane_loading h
  exact ite_loading (by simp [commandErrorAlert, hlane, h]) h

theorem observe_loading {s : State} (o : Observed) (h : s.membership.state = .loading) :
    (observe o s).membership.state = .loading := by
  have hlane : takesLane (giveMemory o s) = false := takesLane_loading (by simpa using h)
  simp [observe, hlane, h]

theorem defaultState_loading {s : State} (h : s.membership.state = .loading) : defaultState s = s := by
  simp [defaultState, listenWaitDue, detachDue, drainDue, h]

theorem settleSlot_loading {s : State} (h : s.membership.state = .loading) (hslot : s.slot < 719) :
    (settleSlot s).membership.state = .loading := by
  let u := defaultWriteAlert (defaultCommandAlert (defaultRecord (defaultSamples (reachEnd s))))
  have hsamples := defaultSamples_loading (s := reachEnd s) (by simpa using h)
  have hrecord : (defaultRecord (defaultSamples (reachEnd s))).membership.state = .loading := by
    rwa [defaultRecord_early (by simpa using hslot)]
  have hu : u.membership.state = .loading := by simpa [u] using defaultCommandAlert_loading hrecord
  have hobserve : (defaultObserve u).membership.state = .loading := ite_loading hu (observe_loading _ hu)
  let v := retireDone true (countPeriod (closeAlert (defaultWindows (defaultCapture (defaultObserve u)))))
  have hv : v.membership.state = .loading := by simpa [v] using hobserve
  have hsettle : settleSlot s = settleAccount (recastVote (countIdle (defaultState v))) := rfl
  rw [hsettle, defaultState_loading hv]
  simpa using hv

theorem endSlot_loading {s : State} (h : s.membership.state = .loading) (hslot : s.slot < 719) :
    (endSlot s).membership.state = .loading ∧ (endSlot s).slot = s.slot + 1 := by
  rw [endSlot_of_ne_off (by simp [h])]
  constructor
  · simpa [finishSlot] using settleSlot_loading h hslot
  · simp [openSlot]

/-- The slots before the last of the read pass in LOADING. -/
theorem passSlots_loading {n : Nat} {s : State} (h : s.membership.state = .loading) (hn : s.slot + n ≤ 719) :
    (passSlots n s).membership.state = .loading ∧ (passSlots n s).slot = s.slot + n := by
  induction n generalizing s with
  | zero => exact ⟨h, rfl⟩
  | succ n ih =>
    obtain ⟨hloading, hslot⟩ := endSlot_loading h (by omega)
    obtain ⟨hstate, hcount⟩ := ih hloading (by omega)
    exact ⟨hstate, by rw [passSlots, hcount, hslot]; omega⟩

/-- The slots up to the last of the read, of which a later slot has none left. -/
theorem passSlots_read {s : State} (h : s.membership.state = .loading) :
    (passSlots (Config.recordReadSlots - 1 - s.slot) s).membership.state = .loading := by
  by_cases hslot : s.slot ≤ 719
  · refine (passSlots_loading h ?_).1
    simp only [Config.recordReadSlots]
    omega
  · have hn : Config.recordReadSlots - 1 - s.slot = 0 := by simp only [Config.recordReadSlots]; omega
    rw [hn]
    exact h

theorem passSlots_turns (n : Nat) (s : State) : Turns s (passSlots n s) := by
  induction n generalizing s with
  | zero => exact .refl
  | succ n ih => exact (endSlot_turns s).trans (ih _)

/-! ### The request path -/

/-- A word taken: moves, and then its reply. -/
def Answered (s t : State) : Prop := ∃ u, Moves s u ∧ Reply u t

theorem Answered.of_reply {s t : State} (h : Reply s t) : Answered s t := ⟨s, .refl, h⟩

theorem Answered.of_moves {s t : State} (h : Moves s t) : Answered s t := ⟨t, h, .silent⟩

theorem Moves.answered {s u t : State} (h : Moves s u) (h' : Answered u t) : Answered s t := by
  obtain ⟨v, hmoves, hreply⟩ := h'
  exact ⟨v, h.trans hmoves, hreply⟩

theorem answerOk_answered {s u : State} (kind : BitVec 4) (tag : Tag) (h : Moves s u) :
    Answered s (answerOk kind tag u) := h.answered (.of_reply (.respond _))

theorem refuseWith_answered (r : RefusalReason) (kind : BitVec 4) (tag : Tag) (thread : Thread) (s : State) :
    Answered s (refuseWith r kind tag thread s) := .of_reply (.respond _)

/-- A request that passes the checks of every kind (R90). -/
theorem commonRefusal_none {state : StationState} {q : List Entry} {tag : Tag} (h : commonRefusal state q tag = none) :
    stateRefusal state = none ∧ tag ∉ q.map Entry.tag ∧ q.length < 16 := by
  unfold commonRefusal at h
  split at h
  · simp at h
  · next hstate =>
    split at h
    · simp at h
    · next htag =>
      split at h
      · simp at h
      · next hfull =>
        refine ⟨hstate, ?_, by simpa [Config.queueSize] using hfull⟩
        simpa [tagInUse] using htag

theorem deliver_answered (kind : MemKind) (tag : Tag) (thread : Thread) (bursts : BurstCount) (urgent : Bool)
    (address : Address) (words : List PortWord) (s : State) :
    Answered s (deliver kind tag thread bursts urgent address words s) := by
  unfold deliver
  split
  · exact refuseWith_answered _ _ _ _ s
  · next h =>
    have hcommon : commonRefusal s.membership.state s.queue tag = none := by
      unfold memRefusal at h
      split at h
      · simp at h
      · assumption
    obtain ⟨hstate, htag, hroom⟩ := commonRefusal_none hcommon
    exact .of_reply (.enqueue _ hstate htag hroom (by rintro _ ⟨⟩; exact ⟨rfl, rfl⟩))

theorem deliverWrite_answered (p : PartialWrite) (s : State) : Answered s (deliverWrite p s) := by
  unfold deliverWrite
  split
  · exact .of_moves (.one (.progress _))
  · exact (Moves.one (.progress none)).answered (deliver_answered _ _ _ _ _ _ _ _)

theorem deliverFence_answered (tag : Tag) (s : State) : Answered s (deliverFence tag s) := by
  unfold deliverFence
  split
  · exact refuseWith_answered _ _ _ _ s
  · next h =>
    obtain ⟨hstate, htag, hroom⟩ := commonRefusal_none h
    exact .of_reply (.enqueue _ hstate htag hroom (by rintro _ ⟨⟩))

theorem takeWord_answered (word : PortWord) (s : State) : Answered s (takeWord word s) := by
  unfold takeWord
  split
  · exact .of_reply .silent
  · exact deliverWrite_answered _ s

theorem takeData_turns (word : PortWord) (s : State) : Turns s (takeData word s) := by
  refine .ite (fun h => ?_) fun _ => .refl
  obtain ⟨u, hmoves, hreply⟩ := takeWord_answered word (usePosition (reachEnd s))
  exact (reachEnd_moves s).turns.trans (.one (.word ((reachEnd_moves s).takesWord.trans h) hmoves hreply))

theorem takeWords_turns (words : List PortWord) (s : State) : Turns s (takeWords words s) := by
  induction words generalizing s with
  | nil => exact .refl
  | cons w rest ih => exact ((beforeOnce_turns _ s).trans (takeData_turns w _)).trans (ih _)

theorem takePermit_answered (tag : Tag) (value : Bool) (s : State) : Answered s (takePermit tag value s) := by
  unfold takePermit
  split
  · exact refuseWith_answered _ _ _ _ s
  · refine answerOk_answered _ _ (.one (.controller _ ⟨id, fun h => .inr ?_, .inl⟩))
    obtain ⟨hmember, hempty, hpermission, -⟩ := voteStands_iff.1 h
    exact ⟨hmember, hempty, hpermission⟩

theorem enterLeaving_moves {s : State} (h : s.membership.state = .member) : Moves s (enterLeaving s) :=
  (withdrawVote_moves s).trans (.one (.leaving h rfl))

theorem takeLeave_answered (tag : Tag) (s : State) : Answered s (takeLeave tag s) := by
  unfold takeLeave
  split
  · next h => exact answerOk_answered _ _ (enterLeaving_moves h)
  · exact refuseWith_answered _ _ _ _ s

theorem takeJoin_answered (tag : Tag) (s : State) : Answered s (takeJoin tag s) := by
  unfold takeJoin
  split
  · next h =>
    exact answerOk_answered _ _ (checkNumber_moves (.inr (.inl (by rw [h]; rfl))) (.inr (by rw [h]; rfl)))
  · exact refuseWith_answered _ _ _ _ s

theorem takeRestart_answered (tag : Tag) (s : State) : Answered s (takeRestart tag s) := by
  unfold takeRestart
  split
  · exact refuseWith_answered _ _ _ _ s
  · exact refuseWith_answered _ _ _ _ s
  · next h => exact answerOk_answered _ _ (.one (.retarget .listening h))
  · exact answerOk_answered _ _ (enterDraining_moves .listening s)

/-! ### Every step is a run of turns -/

/-- A step answers a next state, which turns lead to. -/
def Leads (s : State) (o : Outcome) : Prop := ∃ t, o = .next t ∧ Turns s t

theorem Turns.leads {s t : State} (h : Turns s t) : Leads s (.next t) := ⟨t, rfl, h⟩

theorem whenDue_leads {due : State → Bool} {act : State → State} (s : State)
    (h : due (reachEnd s) = true → Moves (reachEnd s) (act (reachEnd s))) : Leads s (whenDue due act s) := by
  unfold whenDue
  split
  · next hdue => exact ((reachEnd_moves s).trans (h hdue)).turns.leads
  · exact Turns.refl.leads

theorem portStep_leads {f : State → State} (s : State) (hf : ∀ u, ∃ v, Answered u v ∧ Turns v (f u)) :
    Leads s (portStep f s) := by
  unfold portStep
  split
  · next h =>
    obtain ⟨v, ⟨u, hmoves, hreply⟩, hturns⟩ := hf (takeHeader (reachEnd s))
    have hword : Turn (reachEnd s) v :=
      .word ((reachEnd_moves s).takesWord.trans h) ((Moves.one (.progress none)).trans hmoves) hreply
    exact (((reachEnd_moves s).turns.trans (.one hword)).trans hturns).leads
  · exact Turns.refl.leads

theorem portStep_leads_of_answered {f : State → State} (s : State) (hf : ∀ u, Answered u (f u)) :
    Leads s (portStep f s) := portStep_leads s fun u => ⟨f u, hf u, .refl⟩

theorem meetWord_turns (w : LaneBits) (o : Observed) (s : State) : Turns s (meetWord w o s) :=
  .ite (fun _ => .ite (fun _ => (lateReadBack_moves w s).turns) fun _ => endSlot_turns s) fun _ => .refl

theorem observeWord_turns (w : LaneBits) (o : Observed) (s : State) : Turns s (observeWord w o s) :=
  (meetWord_turns w o s).trans ((reachObservation_moves w _).trans (observe_moves o _)).turns

theorem takeLines_moves (d : DataSlot) (s : State) : Moves s (takeLines d s) := by
  have hnote (u : State) : Moves u (noteLines d u) := .withWork .refl rfl
  exact .ite (fun _ => ((reachEnd_moves s).andThen hnote).trans (captureBurst_moves _ _ _)) fun _ => hnote s

theorem sendWords_turns (s : State) : Turns s (sendWords s) := by
  have hmove : Move s (s.withWork { s.work with responded := true }) := .work _ rfl
  have hwork := (Moves.one hmove).turns
  unfold sendWords
  dsimp only
  split
  · exact hwork
  · next r rest h =>
    have hrest : rest.length ≤ s.port.responses.length := by
      rw [State.withWork_port] at h
      simp [h]
    refine .ite (fun _ => hwork.trans (.one (.send _ rfl rfl ?_))) fun _ => hwork.trans (.one (.send _ rfl rfl le_rfl))
    exact hrest

theorem exec_leads (c : Instr) (s : State) : Leads s (exec c s) := by
  cases c with
  | hardReset => exact (Turns.one (.reset _)).leads
  | resetRelease straps presence =>
    show Leads s (match s.membership.state with | .off => _ | _ => _)
    split
    · next h => exact (Turns.one (.release straps presence h)).leads
    · exact Turns.refl.leads
  | startRecordReadComplete bits =>
    show Leads s (match s.membership.state with | .loading => _ | _ => _)
    split
    · next h => exact ((passSlots_turns _ s).trans (completeRead_moves _ (passSlots_read h)).turns).leads
    · exact Turns.refl.leads
  | claimPhase peers => exact ((beforeOnce_turns _ s).trans (claimPhase_moves peers _).turns).leads
  | commandReadBack sampled =>
    show Leads s (if s.work.ended then _ else _)
    split
    · exact (lateReadBack_moves sampled s).turns.leads
    · exact ((defaultClaim_moves s).trans (readBack_moves sampled _)).turns.leads
  | openCommand | closeCommand | readCommand | writeCommand | closeAllCommand | refreshCommand | sleepCommand
  | wakeCommand | modeSetCommand | undefinedCommand | emptySlot => exact (observeWord_turns _ _ s).leads
  | commandErrorAlert =>
    exact ((beforeOnce_turns _ s).trans ((reachEnd_moves _).trans (commandErrorAlert_moves _)).turns).leads
  | writeCheckAlert =>
    exact ((beforeOnce_turns _ s).trans ((reachEnd_moves _).trans (writeCheckAlert_moves _)).turns).leads
  | presenceRise n => exact whenDue_leads s fun _ => takeRise_moves n _
  | presenceFall n => exact whenDue_leads s fun _ => takeFall_moves n _
  | readyLineChange high => exact whenDue_leads s fun _ => takeReady_moves high _
  | quietLineChange high => exact whenDue_leads s fun _ => .one (.quiet high)
  | listenWaitExpiry => exact whenDue_leads s fun h => enterInitializing_moves (listenWaitDue_listening h)
  | periodExpiry => exact whenDue_leads s fun _ => expirePeriod_moves _
  | idleWaitExpiry =>
    exact whenDue_leads (act := fun s => recastVote (countIdle s)) s fun _ =>
      (countIdle_moves _).trans (recastVote_moves _)
  | readBurstCapture lines check => exact ((beforeOnce_turns _ s).trans (takeLines_moves _ _).turns).leads
  | writeBurstDrive => exact (driveBurst_moves s).turns.leads
  | alertWindowExpiry =>
    exact whenDue_leads (act := fun s => retireDone false (expireWindows s)) s fun _ =>
      (expireWindows_moves _).trans (retireDone_moves _ _)
  | fenceLimitExpiry => exact (expireFence_moves s).turns.leads
  | drainComplete =>
    exact whenDue_leads s fun h => endDrain_moves (drainDue_iff.1 h).1 (drainDue_iff.1 h).2
  | detach => exact whenDue_leads s fun h => enterDetached_moves (detachDue_iff.1 h).1 (detachDue_iff.1 h).2
  | readRequest | exclReadRequest => exact portStep_leads_of_answered s (deliver_answered _ _ _ _ _ _ _)
  | writeRequest | exclWriteRequest =>
    exact portStep_leads s fun u => ⟨_, deliverWrite_answered _ u, takeWords_turns _ _⟩
  | fence tag => exact portStep_leads_of_answered s (deliverFence_answered tag)
  | quietPermit tag value => exact portStep_leads_of_answered s (takePermit_answered tag value)
  | leave tag => exact portStep_leads_of_answered s (takeLeave_answered tag)
  | join tag => exact portStep_leads_of_answered s (takeJoin_answered tag)
  | restart tag => exact portStep_leads_of_answered s (takeRestart_answered tag)
  | report tag => exact portStep_leads_of_answered s fun u => .of_reply (.respond _)
  | clear tag => exact portStep_leads_of_answered s fun u => answerOk_answered _ _ (.one (.faults _))
  | undefinedRequestKind kind tag => exact portStep_leads_of_answered s (refuseWith_answered _ _ _ _)
  | strayWordDiscard word => exact (takeData_turns word s).leads
  | responseSend => exact ((beforeOnce_turns _ s).trans (sendWords_turns _)).leads

end Sys2Proof.Machine
end

section
/-! PROOFS. The invariants (O55 to O60), and what a step is run on (O1, O2): each said once of the moves and turns. -/

namespace Sys2Proof.Machine

/-! ### Invariants of every step -/

theorem Move.pending {s t : State} (h : Move s t) : t.pending = s.pending := by
  cases h <;> simp [setState]

theorem Moves.pending {s t : State} (h : Moves s t) : t.pending = s.pending := by
  induction h with
  | refl => rfl
  | tail _ hmove ih => exact hmove.pending.trans ih

theorem Reply.pending {s t : State} (h : Reply s t) : t.pending = s.pending := by
  cases h <;> simp

theorem Turns.pending {s t : State} (h : Turns s t) : t.pending = s.pending := by
  induction h with
  | refl => rfl
  | tail _ hturn ih =>
    refine Eq.trans ?_ ih
    cases hturn with
    | move h => exact h.pending
    | word _ hmoves hreply => rw [hreply.pending, hmoves.pending]; rfl
    | send | slot | offSlot | reset | release => simp

/-- Settles O2: every step is a run of turns, none of which touches the steps that wait. -/
theorem everyCommandCompletes : Obligations.EveryCommandCompletes := by
  unfold Obligations.EveryCommandCompletes
  intro c s
  obtain ⟨t, ht, hturns⟩ := exec_leads c s
  exact ⟨t, ht, hturns.pending⟩

/-- What every turn keeps, and what the waiting steps do not matter to, every step keeps. -/
theorem step_keeps {P : State → Prop} (hpending : ∀ s p, P s → P (s.withPending p))
    (hturn : ∀ s t, Turn s t → P s → P t) (s t : State) (hs : P s) (h : step s = .next t) : P t := by
  have hturns {u v : State} (h : Turns u v) (hu : P u) : P v := by
    induction h with
    | refl => exact hu
    | tail _ hlast ih => exact hturn _ _ hlast ih
  unfold step at h
  split at h
  · obtain rfl := Host.Outcome.next.inj h
    exact hturns (endSlot_turns s) hs
  · next c rest _ =>
    obtain ⟨u, hu, hrun⟩ := exec_leads c (s.withPending rest)
    obtain rfl := Host.Outcome.next.inj (hu.symm.trans h)
    exact hturns hrun (hpending s rest hs)

/-- What every move keeps, a run of moves keeps. -/
theorem Moves.keeps {P : State → Prop} (hmove : ∀ s t, Move s t → P s → P t) {s t : State} (h : Moves s t) (hs : P s) :
    P t := by
  induction h with
  | refl => exact hs
  | tail _ hlast ih => exact hmove _ _ hlast ih

/-! ### The contents of the memory -/

theorem Move.keeps_memory {s t : State} (h : Move s t) (hs : Memory.wf s) : Memory.wf t := by
  cases h with
  | memory m hm => exact hm hs
  | _ => simpa [Memory.wf, setState] using hs

theorem Reply.keeps_memory {s t : State} (h : Reply s t) (hs : Memory.wf s) : Memory.wf t := by
  cases h <;> simpa [Memory.wf] using hs

/-- Settles O56: the contents change in a move or a turn that hands on their form. -/
theorem memoryFormIsKept : Obligations.MemoryFormIsKept := by
  unfold Obligations.MemoryFormIsKept
  refine step_keeps (fun _ _ h => h) fun s t hturn hs => ?_
  cases hturn with
  | move h => exact h.keeps_memory hs
  | word _ hmoves hreply => exact hreply.keeps_memory (hmoves.keeps (fun _ _ => Move.keeps_memory) hs)
  | slot m hm => simpa [Memory.wf] using hm hs
  | send | offSlot | reset | release => simpa [Memory.wf] using hs

/-! ### Room for the responses -/

theorem OwesNoMore.room {s t : State} (h : OwesNoMore s t) (hs : ResponseRoom s) : ResponseRoom t := by
  obtain ⟨hqueue, howed, hoff, htake, hpositions⟩ := h
  obtain ⟨hlength, hroom, hreset, htaking⟩ := hs
  refine ⟨hqueue.trans hlength, howed.trans hroom, fun h => htake ▸ hreset (hoff h), fun h => ?_⟩
  rw [hpositions]
  exact howed.trans (htaking (htake ▸ h))

/-- A reply makes one response or one entry at most. -/
theorem Reply.owes {s t : State} (h : Reply s t) :
    t.queue.length ≤ max s.queue.length 16 ∧ owedResponses t ≤ owedResponses s + 1 ∧
      t.membership = s.membership ∧ t.port.take = s.port.take ∧ t.work = s.work := by
  cases h with
  | silent => exact ⟨le_max_left _ _, Nat.le_succ _, rfl, rfl, rfl⟩
  | respond j => refine ⟨le_max_left _ _, ?_, rfl, rfl, rfl⟩; simp [owedResponses]; omega
  | enqueue e _ _ hroom _ => refine ⟨?_, ?_, rfl, rfl, rfl⟩ <;> simp [owedResponses, joinQueue, withdrawVote] <;> omega

theorem takesWord_iff {s : State} : takesWord s = true ↔ s.port.take = true ∧ s.work.positions < 8 := by
  unfold takesWord
  rw [Bool.and_eq_true, decide_eq_true_iff]
  rfl

theorem word_room {s u t : State} (h : takesWord s = true) (hmoves : Moves (usePosition s) u) (hreply : Reply u t)
    (hs : ResponseRoom s) : ResponseRoom t := by
  obtain ⟨hlength, hroom, hreset, htaking⟩ := hs
  obtain ⟨hqueue, howed, hoff, htake, hpositions⟩ := hmoves.owesNoMore
  obtain ⟨hqueue', howed', hmembership, htake', hwork⟩ := hreply.owes
  obtain ⟨hopen, hfree⟩ := takesWord_iff.1 h
  have hslack := htaking hopen
  have huse : owedResponses (usePosition s) = owedResponses s := rfl
  have hused : (usePosition s).work.positions = s.work.positions + 1 := rfl
  have hline : (usePosition s).queue = s.queue := rfl
  refine ⟨?_, by omega, fun hstate => ?_, fun _ => ?_⟩
  · rw [hline] at hqueue
    exact hqueue'.trans (max_le (hqueue.trans hlength) le_rfl)
  · rw [htake', htake]
    exact hreset (hoff (hmembership ▸ hstate))
  · rw [hwork, hpositions, hused]
    omega

/-- What the opening of the next slot makes of the blocks that it changes. -/
@[simp] theorem openSlot_changes (s : State) :
    (openSlot s).queue = s.queue.map Entry.nextSlot ∧ (openSlot s).work = SlotWork.fresh ∧
      (openSlot s).slot = s.slot + 1 ∧ (openSlot s).lines = nextDrives s ∧
      (openSlot s).faults = { s.faults with attention := nextAttention s.faults } ∧
      (openSlot s).dataUnit = { s.dataUnit with driving := none } ∧
      (openSlot s).port = { s.port with take := nextTake s, responsePath := [] } ∧
      (openSlot s).loader.record = s.loader.record ∧ (openSlot s).loader.settings = s.loader.settings :=
  ⟨rfl, rfl, rfl, rfl, rfl, rfl, rfl, rfl, rfl⟩

@[simp] theorem joinResponses_port (s : State) : (joinResponses s).port =
    { s.port with responses := s.port.responses ++ s.port.joining.map (joinedResponse s), joining := [] } := rfl

theorem nextTake_iff {s : State} :
    nextTake s = true ↔ s.membership.state ≠ .off ∧ s.port.responses.length ≤ 40 := by
  unfold nextTake
  rw [Bool.and_eq_true, decide_eq_true_iff, decide_eq_true_iff]
  rfl

theorem openSlot_room {s : State} (hs : ResponseRoom s) (m : ChannelMemory) :
    ResponseRoom (openSlot ((joinResponses s).withMemory m)) := by
  obtain ⟨hlength, hroom, hreset, -⟩ := hs
  generalize hu : (joinResponses s).withMemory m = u
  have hstate : u.membership = s.membership := by simp [← hu]
  have hline : u.queue = s.queue := by simp [← hu]
  have hjoined : u.port.responses.length = s.port.responses.length + s.port.joining.length := by simp [← hu]
  have hjoining : u.port.joining = [] := by simp [← hu]
  have howed : owedResponses (openSlot u) = owedResponses s := by
    simp [owedResponses, hline, hjoined, hjoining]
  have htake : (openSlot u).port.take = nextTake u := by simp
  refine ⟨by simpa [hline] using hlength, by rwa [howed], fun h => ?_, fun h => ?_⟩
  · rw [htake, ← Bool.not_eq_true, nextTake_iff]
    exact fun hopen => hopen.1 (by simpa using h)
  · rw [htake] at h
    obtain ⟨-, hresponses⟩ := nextTake_iff.1 h
    rw [howed]
    simp only [owedResponses]
    omega

theorem reset_room (s : State) (w : SlotWork) :
    ResponseRoom (((State.reset.withPending s.pending).withMemory s.memory).withWork w) := by
  refine ⟨Nat.zero_le _, Nat.zero_le _, fun _ => rfl, fun h => ?_⟩
  simp [State.reset] at h

/-- Settles O57: a word of the request path owes one response more and uses one position more. -/
theorem responseRoomIsKept : Obligations.ResponseRoomIsKept := by
  unfold Obligations.ResponseRoomIsKept
  refine step_keeps (fun _ _ h => h) fun s t hturn hs => ?_
  cases hturn with
  | move h => exact h.owesNoMore.room hs
  | word h hmoves hreply => exact word_room h hmoves hreply hs
  | send p htake hjoining hresponses =>
    obtain ⟨hlength, hroom, hreset, htaking⟩ := hs
    have howed : owedResponses (s.withPort p) ≤ owedResponses s := by
      simp only [owedResponses, State.withPort_port, State.withPort_queue, hjoining]
      omega
    exact ⟨hlength, howed.trans hroom, fun h => htake.trans (hreset h), fun h => howed.trans (htaking (htake ▸ h))⟩
  | slot m => exact openSlot_room hs m
  | offSlot h =>
    obtain ⟨hlength, hroom, hreset, -⟩ := hs
    refine ⟨hlength, hroom, hreset, fun htake => ?_⟩
    have hlow : s.port.take = false := hreset h
    simp [hlow] at htake
  | reset w => exact reset_room s w
  | release straps presence h =>
    obtain ⟨hlength, hroom, hreset, htaking⟩ := hs
    exact ⟨hlength, hroom, by simp [releaseReset], htaking⟩

/-! ### Limits -/

theorem EntriesKept.length {s : State} {q : List Entry} (h : EntriesKept s q) : q.length = s.queue.length := by
  simpa using congrArg List.length h.1

theorem Move.keeps_limits {s t : State} (h : Move s t) (hs : WithinLimits s) : WithinLimits t := by
  have hs' := hs
  obtain ⟨hlength, htags, hentries, hnone, htable, hthreads, hdebt⟩ := hs
  cases h with
  | table u hu =>
    obtain ⟨htable', hthreads'⟩ := hu ⟨htable, hthreads⟩
    exact ⟨hlength, htags, hentries, hnone, htable', hthreads', hdebt⟩
  | entries q hq =>
    refine ⟨hq.length ▸ hlength, ?_, hq.2 hentries, fun h => ?_, htable, hthreads, hdebt⟩
    · exact (hq.1 ▸ htags : (q.map Entry.tag).Nodup)
    · exact List.length_eq_zero_iff.1 (by rw [State.withQueue_queue, hq.length, hnone h]; rfl)
  | retire q js hq hjs =>
    refine ⟨hq.length_le.trans hlength, htags.sublist (hq.map _), fun e he => hentries e (hq.subset he), fun h => ?_,
      htable, hthreads, hdebt⟩
    exact List.sublist_nil.1 (hnone h ▸ hq)
  | controller c hc => exact ⟨hlength, htags, hentries, hnone, htable, hthreads, hc.1 hdebt⟩
  | accept l k h =>
    have hempty : s.queue = [] := hnone (.inr h)
    exact ⟨hlength, htags, by simp [hempty], hnone, htable, hthreads, hdebt⟩
  | leave st hst => exact ⟨hlength, htags, hentries, by rcases hst with rfl | rfl | rfl <;> simp, htable, hthreads, hdebt⟩
  | drain | beginInit | member | resync | leaving =>
    exact ⟨hlength, htags, hentries, by simp [setState], htable, hthreads, hdebt⟩
  | learn | trust => simpa [WithinLimits, queueTags, reservedThreads, State.settings] using hs'
  | resume =>
    refine ⟨by simpa [setState], ?_, ?_, by simp [setState], ?_, ?_, ?_⟩ <;>
      simpa [setState, queueTags, reservedThreads, State.settings]
  | work | faults | counters | dataUnit | memory | progress | mirror | ready | quiet | roster | silence | record
  | retarget | advance | leaveDoubt | doubt => exact hs'

theorem stateRefusal_none {st : StationState} (h : stateRefusal st = none) : emptyQueueState st = false := by
  cases st <;> simp_all [stateRefusal, emptyQueueState]

theorem Reply.keeps_limits {s t : State} (h : Reply s t) (hs : WithinLimits s) : WithinLimits t := by
  cases h with
  | silent | respond => exact hs
  | enqueue e hstate htag hroom hwithin =>
    obtain ⟨hlength, htags, hentries, hnone, htable, hthreads, hdebt⟩ := hs
    refine ⟨?_, ?_, ?_, fun h => ?_, htable, hthreads, hdebt⟩
    · simp [joinQueue, withdrawVote]
      omega
    · simp only [queueTags, joinQueue, withdrawVote, State.withController_queue, State.withPort_queue,
        State.withQueue_queue, List.map_append, List.map_cons, List.map_nil]
      exact List.Nodup.append htags (List.nodup_singleton _) (by simpa [queueTags] using htag)
    · intro x hx
      rcases List.mem_append.1 (by simpa [joinQueue, withdrawVote] using hx : x ∈ s.queue ++ [e]) with hold | hnew
      · exact hentries x hold
      · obtain rfl := List.mem_singleton.1 hnew
        intro m hm
        obtain ⟨hage, hguard⟩ := hwithin m hm
        simp [hage, hguard]
    · have hnot := stateRefusal_none hstate
      rcases h with h | h <;> simp [joinQueue, withdrawVote] at h <;> simp [h, emptyQueueState] at hnot

theorem EntryWithin.nextSlot {c : Settings} {e : Entry} (h : EntryWithin c e) : EntryWithin c e.nextSlot :=
  h.map (f := fun m => { m with judged := none }) rfl (fun _ => rfl) fun _ => rfl

theorem openSlot_limits {s : State} (hs : WithinLimits s) (m : ChannelMemory) :
    WithinLimits (openSlot ((joinResponses s).withMemory m)) := by
  obtain ⟨hlength, htags, hentries, hnone, htable, hthreads, hdebt⟩ := hs
  generalize hu : (joinResponses s).withMemory m = u
  have hstate : u.membership = s.membership := by simp [← hu]
  have hqueue : (openSlot u).queue = s.queue.map Entry.nextSlot := by simp [← hu]
  have hreserved : (openSlot u).table = s.table := by simp [← hu]
  have haccount : (openSlot u).controller = s.controller := by simp [← hu]
  have hsettings : (openSlot u).settings = s.settings := by simp [State.settings, ← hu]
  have hkept : (s.queue.map Entry.nextSlot).map Entry.tag = s.queue.map Entry.tag := by
    rw [List.map_map]
    rfl
  refine ⟨?_, ?_, ?_, fun h => ?_, by rwa [hreserved], ?_, by rwa [haccount]⟩
  · rwa [hqueue, List.length_map]
  · rwa [queueTags, hqueue, hkept]
  · intro e he
    rw [hqueue] at he
    rw [hsettings]
    obtain ⟨x, hx, rfl⟩ := List.mem_map.1 he
    exact (hentries x hx).nextSlot
  · rw [hqueue, hnone (by simpa [hstate] using h)]
    rfl
  · rwa [reservedThreads, hreserved]

theorem reset_limits (s : State) (w : SlotWork) :
    WithinLimits (((State.reset.withPending s.pending).withMemory s.memory).withWork w) :=
  ⟨Nat.zero_le _, List.nodup_nil, by simp [State.reset], fun _ => rfl, Nat.zero_le _, List.nodup_nil, Nat.zero_le _⟩

/-- Settles O55: every move and every reply keeps the limits, and the turn of a slot and a reset leave nothing that could
break them. -/
theorem limitsAreKept : Obligations.LimitsAreKept := by
  unfold Obligations.LimitsAreKept
  refine step_keeps (fun _ _ h => h) fun s t hturn hs => ?_
  cases hturn with
  | move h => exact h.keeps_limits hs
  | word _ hmoves hreply => exact hreply.keeps_limits (hmoves.keeps (fun _ _ => Move.keeps_limits) hs)
  | slot m => exact openSlot_limits hs m
  | reset w => exact reset_limits s w
  | send | offSlot => exact hs
  | release straps presence h =>
    obtain ⟨hlength, htags, hentries, hnone, hrest⟩ := hs
    exact ⟨hlength, htags, hentries, fun _ => hnone (.inl h), hrest⟩

/-! ### The trust in the mirror -/

@[simp] theorem makeKnown_mirror (c : LaneCommand) (s : State) :
    (makeKnown c s).mirror.kept = s.mirror.kept ∧ (makeKnown c s).mirror.fence = s.mirror.fence := by
  unfold makeKnown
  split <;> exact ⟨rfl, rfl⟩

theorem makeKnown_of_known {s : State} {m : KnownMirror} (c : LaneCommand) (h : s.mirror.known = some m) :
    makeKnown c s = s := by
  unfold makeKnown
  rw [h]

theorem makeKnown_isSome {s : State} (c : LaneCommand) (h : s.mirror.known.isSome = true) :
    (makeKnown c s).mirror.known.isSome = true := by
  obtain ⟨m, hm⟩ := Option.isSome_iff_exists.1 h
  rw [makeKnown_of_known c hm, hm]
  rfl

/-- The trust sees membership, mirror and record alone. -/
theorem MirrorTrust.congr {s t : State} (h : MirrorTrust s) (hmembership : t.membership = s.membership)
    (hmirror : t.mirror = s.mirror) (hrecord : t.loader.record = s.loader.record) : MirrorTrust t := by
  simpa only [MirrorTrust, StateFields, RecordKept, hmembership, hmirror, hrecord] using h

/-- The trust sees only whether the mirror is known and the kept fields are there. -/
theorem MirrorTrust.mirror {s : State} {m : Mirror} (h : MirrorTrust s)
    (hknown : m.known.isSome = s.mirror.known.isSome) (hkept : m.kept.isSome = s.mirror.kept.isSome) :
    MirrorTrust (s.withMirror m) := by
  simpa only [MirrorTrust, StateFields, RecordKept, State.withMirror_membership, State.withMirror_mirror,
    State.withMirror_loader, hknown, hkept, ← Option.isNone_iff_eq_none, ← Option.not_isSome] using h

theorem HasKept.isSome {s : State} (h : HasKept s) (hs : MirrorTrust s) : s.mirror.kept.isSome = true := by
  obtain ⟨-, hrecord, harrived, -⟩ := hs
  rcases h with h | h | ⟨r, hr, hj⟩
  · exact h
  · exact harrived h
  · exact hrecord r hr hj

theorem Move.keeps_trust {s t : State} (h : Move s t) (hs : MirrorTrust s) : MirrorTrust t := by
  have hs' := hs
  obtain ⟨⟨hinit, hdrain, hdoubt⟩, hrecord, harrived, hmember, hleaving, hrefresh, hdoubted⟩ := hs
  cases h with
  | mirror m hm =>
    obtain ⟨hknown, hkept, -⟩ := hm
    exact hs'.mirror hknown hkept
  | quiet high => exact (hs'.mirror (m := (takeQuiet high s).mirror) (by simp [takeQuiet]) rfl).congr rfl rfl rfl
  | record r hr =>
    refine ⟨⟨hinit, hdrain, hdoubt⟩, ?_, harrived, hmember, hleaving, hrefresh, hdoubted⟩
    rintro _ ⟨⟩ h
    exact absurd h hr
  | accept l k h =>
    exact ⟨⟨hinit, hdrain, hdoubt⟩, fun _ _ _ => rfl, fun _ => rfl, hmember, hleaving, hrefresh, hdoubted⟩
  | leave st hst hvote hduty hkept =>
    refine ⟨⟨?_, ?_, by simp⟩, hrecord, fun h => (hkept h).isSome hs', ?_, ?_, by simp [refreshStep], fun _ => rfl⟩ <;>
      rcases hst with rfl | rfl | rfl <;> simp
  | drain =>
    exact ⟨⟨by simp, by simp, by simp⟩, hrecord, by simp [arrivedState], by simp, by simp, by simp [refreshStep],
      fun _ => rfl⟩
  | retarget target h =>
    exact ⟨⟨hinit, by simp [h], hdoubt⟩, hrecord, harrived, hmember, hleaving, hrefresh, hdoubted⟩
  | beginInit h =>
    have hkept : s.mirror.kept.isSome = true := harrived (by rw [h]; rfl)
    refine ⟨⟨by simp, ?_, ?_⟩, hrecord, fun _ => hkept, by simp, by simp, by simp [refreshStep], by simp [doubtedState]⟩
    · simpa [h] using hdrain
    · simpa [h] using hdoubt
  | advance st n hst hn hstate hknown =>
    refine ⟨⟨by simpa, hdrain, hdoubt⟩, hrecord, harrived, hmember, hleaving, fun h => ?_, hdoubted⟩
    have hkept : s.mirror.kept.isSome = true := harrived (by rw [hstate]; rfl)
    rw [hst] at hrefresh
    cases st <;> simp only [InitStep.next, Option.some.injEq, reduceCtorEq] at hn <;> subst hn <;>
      simp [refreshStep] at h
    · exact hknown rfl hkept
    · exact hrefresh rfl
  | member h =>
    have hkept : s.mirror.kept.isSome = true := by
      rcases h with ⟨h, -⟩ | h
      · exact harrived (by rw [h]; rfl)
      · exact harrived (by rw [hinit.1 (by rw [h]; rfl)]; rfl)
    have hknown : s.mirror.known.isSome = true := by
      rcases h with ⟨-, h⟩ | h
      · exact h hkept
      · exact hrefresh (by rw [h]; rfl)
    have hstate : s.membership.state = .listening ∨ s.membership.state = .initializing :=
      h.imp And.left fun h => hinit.1 (by rw [h]; rfl)
    refine ⟨⟨by simp, ?_, ?_⟩, hrecord, fun _ => hkept, fun _ => hknown, by simp, by simp [refreshStep],
      by simp [doubtedState]⟩
    · rcases hstate with h | h <;> simpa [h] using hdrain
    · rcases hstate with h | h <;> simpa [h] using hdoubt
  | resync h =>
    have hkept : s.mirror.kept.isSome = true := harrived (by rw [h]; rfl)
    have hstep : s.membership.initStep = none := by simpa [h] using hinit
    refine ⟨⟨?_, ?_, ?_⟩, hrecord, fun _ => hkept, ?_, ?_, ?_, fun _ => rfl⟩
    · simp [setState, hstep]
    · simpa [setState, h] using hdrain
    · simpa [setState, h] using hdoubt
    · simp [setState]
    · simp [setState]
    · simp [setState, hstep, refreshStep]
  | leaveDoubt h =>
    have hkept : s.mirror.kept.isSome = true := harrived (by rw [h]; rfl)
    have hstep : s.membership.initStep = none := by simpa [h] using hinit
    refine ⟨⟨?_, ?_, ?_⟩, hrecord, fun _ => hkept, ?_, ?_, ?_, fun _ => rfl⟩
    · simpa using hinit
    · simpa using hdrain
    · simp [h]
    · simp [h]
    · simp [doubtMirror]
    · simp [hstep, refreshStep]
  | doubt h =>
    have hstep : s.membership.initStep = none := by simpa [h] using hinit
    refine ⟨⟨hinit, hdrain, hdoubt⟩, hrecord, harrived, ?_, ?_, ?_, fun _ => rfl⟩
    · simp [h]
    · simp [h]
    · simp [hstep, refreshStep]
  | learn c h =>
    refine ⟨⟨by simpa using hinit, by simpa using hdrain, by simpa using hdoubt⟩, ?_, ?_, ?_, ?_, ?_, ?_⟩
    · simpa [RecordKept] using hrecord
    · simpa using harrived
    · rcases h with h | h <;> simp [h]
    · rcases h with h | h <;> simp [h]
    · exact fun hstep => makeKnown_isSome c (hrefresh (by simpa using hstep))
    · rcases h with h | h <;> simp [h, doubtedState]
  | resume c hsync h =>
    have hkept : s.mirror.kept.isSome = true := harrived (by rw [h]; rfl)
    have hstep : s.membership.initStep = none := by simpa [h] using hinit
    have hknown : (makeKnown c s).mirror.known.isSome = true := makeKnown_known hsync (by simpa using hkept)
    refine ⟨⟨?_, ?_, ?_⟩, by simpa [RecordKept] using hrecord, ?_, ?_, ?_, ?_, ?_⟩
    · simp [setState, hstep]
    · simpa [setState, h] using hdrain
    · simpa [setState, h] using hdoubt
    · simpa using fun _ => hkept
    · simpa using fun _ => hknown
    · simp [setState]
    · simp [setState, hstep, refreshStep]
    · simp [setState, doubtedState]
  | trust c hsync h =>
    have hkept : s.mirror.kept.isSome = true := harrived (by rw [h]; rfl)
    have hstep : s.membership.initStep = none := by simpa [h] using hinit
    have hknown := makeKnown_known (s := s.withMembership { s.membership with leaveDoubt := false }) hsync
      (by simpa using hkept)
    refine ⟨⟨?_, ?_, ?_⟩, by simpa [RecordKept] using hrecord, ?_, ?_, ?_, ?_, ?_⟩
    · simp [hstep, h]
    · simpa using hdrain
    · simp
    · simpa using fun _ => hkept
    · simp [h]
    · simpa using fun _ => hknown
    · simp [hstep, refreshStep]
    · simp [h, doubtedState]
  | leaving h hvote =>
    have hknown := hmember h
    have hkept : s.mirror.kept.isSome = true := harrived (by rw [h]; rfl)
    have hstep : s.membership.initStep = none := by simpa [h] using hinit
    have hundoubted : s.membership.leaveDoubt = false := by simpa [h] using hdoubt
    refine ⟨⟨?_, ?_, ?_⟩, hrecord, ?_, ?_, ?_, ?_, ?_⟩
    · simp [setState, hstep]
    · simpa [setState, h] using hdrain
    · simp [setState]
    · exact fun _ => hkept
    · simp [setState]
    · simp [setState, hknown, hundoubted]
    · simp [setState, hstep, refreshStep]
    · simp [setState, doubtedState]
  | work | faults | counters | dataUnit | memory | table | entries | retire | progress | controller | ready | roster
  | silence => exact hs'

theorem reset_trust (s : State) (w : SlotWork) :
    MirrorTrust (((State.reset.withPending s.pending).withMemory s.memory).withWork w) := by
  refine ⟨⟨?_, ?_, ?_⟩, ?_, ?_, ?_, ?_, ?_, fun _ => rfl⟩ <;>
    simp [State.reset, RecordKept, arrivedState, refreshStep]

/-- Settles O58: the moves of the station state are those that the manual gives each state, and nothing else of a turn touches
the mirror's trust. -/
theorem mirrorTrustIsKept : Obligations.MirrorTrustIsKept := by
  unfold Obligations.MirrorTrustIsKept
  refine step_keeps (fun _ _ h => h) fun s t hturn hs => ?_
  cases hturn with
  | move h => exact h.keeps_trust hs
  | word _ hmoves hreply =>
    have hu := hmoves.keeps (fun _ _ => Move.keeps_trust) hs
    cases hreply with
    | silent | respond => exact hu
    | enqueue => exact hu.congr rfl rfl rfl
  | slot m => exact hs.congr (by simp) (by simp) (by simp)
  | send | offSlot => exact hs
  | reset w => exact reset_trust s w
  | release straps presence h =>
    obtain ⟨⟨hinit, hdrain, hdoubt⟩, hrecord, harrived, hmember, hleaving, hrefresh, hdoubted⟩ := hs
    have hknown : s.mirror.known = none := hdoubted (by rw [h]; rfl)
    refine ⟨⟨?_, ?_, ?_⟩, hrecord, ?_, ?_, ?_, ?_, fun _ => hknown⟩
    · simpa [releaseReset, h] using hinit
    · simpa [releaseReset, h] using hdrain
    · simpa [releaseReset, h] using hdoubt
    · simp [releaseReset, arrivedState]
    · simp [releaseReset]
    · simp [releaseReset]
    · exact hrefresh

/-! ### What each state holds -/

/-- The holdings see these fields alone. -/
theorem HeldByState.congr {s t : State} (h : HeldByState s) (hstate : t.membership.state = s.membership.state)
    (hqueue : t.queue = s.queue) (hmirror : t.mirror.known = s.mirror.known) (hfence : t.mirror.fence = s.mirror.fence)
    (hcontroller : t.controller = s.controller) (hquiet : t.lines.quietSample = s.lines.quietSample) : HeldByState t := by
  simpa only [HeldByState, hstate, hqueue, hmirror, hfence, hcontroller, hquiet] using h

/-- A hold that a sync point brings stands at a high quiet line (R71, R74). -/
theorem makeKnown_quietHold {s : State} {c : LaneCommand} {m : KnownMirror} (h : (makeKnown c s).mirror.known = some m)
    (hq : m.quietHold = true) : s.lines.quietSample = true ∨ s.mirror.known = some m := by
  unfold makeKnown at h
  split at h
  · cases c <;> simp [syncMirror] at h <;> subst h <;> simp_all
  · exact .inr h

theorem Move.keeps_held {s t : State} (h : Move s t) (hs : HeldByState s) : HeldByState t := by
  have hs' := hs
  obtain ⟨hempty, hfence, hvote, hduty, hquiet⟩ := hs
  cases h with
  | entries q hq =>
    have hnil (h : s.queue = []) : q = [] := List.length_eq_zero_iff.1 (by rw [hq.length, h]; rfl)
    exact ⟨fun h => hnil (hempty h), hfence, fun h => (hvote h).imp_right (.imp_left hnil), hduty, hquiet⟩
  | retire q js hq =>
    have hnil (h : s.queue = []) : q = [] := List.sublist_nil.1 (h ▸ hq)
    exact ⟨fun h => hnil (hempty h), hfence, fun h => (hvote h).imp_right (.imp_left hnil), hduty, hquiet⟩
  | controller c hc =>
    obtain ⟨-, hcast, hpointer⟩ := hc
    refine ⟨hempty, hfence, fun h => ?_, fun h => (hpointer h).elim hduty id, hquiet⟩
    rcases hcast h with ⟨hold, hperm⟩ | hnew
    · obtain ⟨hmember, hnone, hyes⟩ := hvote hold
      exact ⟨hmember, hnone, (hperm.resolve_right fun hnot => hnot hmember).trans hyes⟩
    · exact hnew
  | mirror m hm =>
    obtain ⟨-, -, hset, hhold⟩ := hm
    refine ⟨hempty, fun h => (hset h).elim hfence id, hvote, hduty, fun k hk hq => ?_⟩
    rcases hhold k hk hq with hhigh | ⟨j, hj, hjq⟩
    · exact hhigh
    · exact hquiet j hj hjq
  | quiet high =>
    refine ⟨hempty, hfence, hvote, hduty, fun k hk hq => ?_⟩
    obtain ⟨j, -, rfl⟩ := Option.map_eq_some_iff.1 hk
    cases high with
    | true => rfl
    | false => simp [quietSampled] at hq
  | leave st hst hcast hpointer hkept hqueue =>
    refine ⟨fun h => (hqueue h).elim id hempty, by simp, ?_, ?_, by simp⟩
    · simp [hcast]
    · simp [hpointer]
  | drain target hcast => exact ⟨by simp [emptyQueueState], by simp, by simp [hcast], fun _ => rfl, by simp⟩
  | beginInit h =>
    have hcast : s.controller.vote = false := by simpa [h] using hvote
    exact ⟨by simp [emptyQueueState], by simp, by simp [hcast], fun _ => rfl, by simp⟩
  | member =>
    refine ⟨by simp [emptyQueueState], fun _ => rfl, fun h => ⟨rfl, (hvote h).2⟩, fun _ => rfl, hquiet⟩
  | resync h hcast =>
    exact ⟨by simp [setState, emptyQueueState], fun _ => rfl, by simp [hcast], fun _ => rfl, by simp [doubtMirror]⟩
  | leaving h hcast => exact ⟨by simp [setState, emptyQueueState], fun _ => rfl, by simp [hcast], fun _ => rfl, hquiet⟩
  | leaveDoubt | doubt => exact ⟨hempty, hfence, hvote, hduty, by simp [doubtMirror]⟩
  | learn c =>
    refine ⟨by simpa using hempty, by simpa using hfence, by simpa using hvote, by simpa using hduty, fun m hm hq => ?_⟩
    simpa using (makeKnown_quietHold hm hq).elim id fun h => hquiet m h hq
  | resume c hsync h =>
    have hcast : s.controller.vote = false := by simpa [h] using hvote
    refine ⟨by simp [setState, emptyQueueState], fun _ => rfl, by simp [hcast], fun _ => rfl, fun m hm hq => ?_⟩
    simpa using (makeKnown_quietHold hm hq).elim id fun h => hquiet m h hq
  | trust c hsync h =>
    refine ⟨by simpa using hempty, by simpa using hfence, by simpa using hvote, by simpa using hduty, fun m hm hq => ?_⟩
    simpa using (makeKnown_quietHold hm hq).elim id fun h => hquiet m h hq
  | work | faults | counters | dataUnit | memory | table | progress | ready | roster | silence | record | accept | retarget
  | advance => exact hs'

theorem reset_held (s : State) (w : SlotWork) :
    HeldByState (((State.reset.withPending s.pending).withMemory s.memory).withWork w) := by
  refine ⟨fun _ => rfl, ?_, ?_, ?_, ?_⟩ <;> simp [State.reset]

/-- Settles O59: a move brings an entry, a fence, a vote, the duty pointer or the quiet hold only into a state that lets them,
and takes them away on leaving it. -/
theorem holdingsFollowState : Obligations.HoldingsFollowState := by
  unfold Obligations.HoldingsFollowState
  refine step_keeps (fun _ _ h => h) fun s t hturn hs => ?_
  cases hturn with
  | move h => exact h.keeps_held hs
  | word _ hmoves hreply =>
    have hu := hmoves.keeps (fun _ _ => Move.keeps_held) hs
    cases hreply with
    | silent | respond => exact hu
    | enqueue e hstate =>
      obtain ⟨-, hfence, -, hduty, hquiet⟩ := hu
      have hlets := stateRefusal_none hstate
      exact ⟨by simp [joinQueue, hlets], hfence, by simp [joinQueue, withdrawVote], hduty, hquiet⟩
  | slot m =>
    obtain ⟨hempty, hfence, hvote, hduty, hquiet⟩ := hs
    refine ⟨?_, ?_, ?_, ?_, ?_⟩
    · simpa using hempty
    · simpa using hfence
    · simpa using hvote
    · simpa using hduty
    · simpa [nextDrives] using hquiet
  | send | offSlot => exact hs
  | reset w => exact reset_held s w
  | release straps presence h =>
    obtain ⟨hempty, hfence, hvote, hduty, hquiet⟩ := hs
    refine ⟨fun _ => hempty (by rw [h]; rfl), fun hf => ?_, fun hv => ?_, fun hd => ?_, hquiet⟩
    · simpa [h, holdsFence] using hfence hf
    · simpa [h] using (hvote hv).1
    · simpa [h, keepsDuty] using hduty hd

/-- Settles O60: the reset values are those of every invariant. -/
theorem resetHasEveryInvariant : Obligations.ResetHasEveryInvariant := by
  unfold Obligations.ResetHasEveryInvariant
  have hcontents : Memory.wf State.reset := rfl
  exact ⟨reset_limits State.reset SlotWork.fresh, hcontents, reset_room State.reset SlotWork.fresh,
    reset_trust State.reset SlotWork.fresh, reset_held State.reset SlotWork.fresh⟩

/-- Settles O1: the front of the queue is taken off, and run on what remains. -/
theorem stepRunsFrontCommand : Obligations.StepRunsFrontCommand := by
  unfold Obligations.StepRunsFrontCommand
  intro s c rest h
  unfold step
  rw [h]

end Sys2Proof.Machine
end

section
/-! PROOFS. The words: what is read from a word is what was written to it (O4, O5), how claim words compare (O6), and which
claim word the contest leaves (O7). -/

namespace Sys2Proof.Machine

/-! ### Lane command words -/

section
variable (i : StationNo) (c : LaneCommand)

theorem encodeCommand_kind : (encodeCommand i c).extractLsb' 44 4 = commandKind c := by
  unfold encodeCommand
  simp (disch := decide) only [BitVec.extractLsb'_cast, BitVec.extractLsb'_append_eq_of_le, BitVec.extractLsb'_eq_self, Nat.reduceSub, -Nat.reduceAdd]

theorem encodeCommand_issuer : (encodeCommand i c).extractLsb' 41 3 = i := by
  unfold encodeCommand
  simp (disch := decide) only [BitVec.extractLsb'_cast, BitVec.extractLsb'_append_eq_of_le, BitVec.extractLsb'_append_eq_of_add_le,
    BitVec.extractLsb'_eq_self, Nat.reduceSub, -Nat.reduceAdd]

theorem encodeCommand_check : (encodeCommand i c).extractLsb' 25 16 = commandCheck c := by
  unfold encodeCommand
  simp (disch := decide) only [BitVec.extractLsb'_cast, BitVec.extractLsb'_append_eq_of_le, BitVec.extractLsb'_append_eq_of_add_le,
    BitVec.extractLsb'_eq_self, Nat.reduceSub, -Nat.reduceAdd]

theorem encodeCommand_fields {start len : Nat} (h : start + len ≤ 25) :
    (encodeCommand i c).extractLsb' start len = (commandFields c).extractLsb' start len := by
  unfold encodeCommand
  rw [BitVec.extractLsb'_cast, BitVec.extractLsb'_append_eq_of_add_le h]

end

theorem purposeOf_code (p : Purpose) : purposeOf (purposeCode p) = p := by cases p <;> rfl

theorem decodeCommand_encodeCommand (i : StationNo) (c : LaneCommand) :
    decodeCommand (encodeCommand i c) = .command i c := by
  unfold decodeCommand wordIssuer
  rw [encodeCommand_kind, encodeCommand_issuer, encodeCommand_check, encodeCommand_fields i c (by decide),
    encodeCommand_fields i c (by decide), encodeCommand_fields i c (by decide), encodeCommand_fields i c (by decide),
    encodeCommand_fields i c (by decide), encodeCommand_fields i c (by decide), encodeCommand_fields i c (by decide)]
  cases c <;>
    simp (disch := decide) only [commandKind, commandCheck, commandFields, BitVec.extractLsb'_cast, BitVec.extractLsb'_append_eq_of_le,
      BitVec.extractLsb'_append_eq_of_add_le, BitVec.extractLsb'_eq_self, purposeOf_code, Nat.reduceSub, -Nat.reduceAdd] <;>
    rfl

/-- Settles O4: each field is read from the bits that it was written to. -/
theorem laneCommandWordsRoundTrip : Obligations.LaneCommandWordsRoundTrip := by
  unfold Obligations.LaneCommandWordsRoundTrip
  refine ⟨decodeCommand_encodeCommand, fun w => ⟨fun h => ?_, fun h => ?_, fun hlow hhigh => ?_⟩⟩ <;>
    unfold decodeCommand wordIssuer <;> dsimp only
  · simp [h]
  · have hlt : (w.extractLsb' 44 4).toNat < 16 := (w.extractLsb' 44 4).isLt
    generalize (w.extractLsb' 44 4).toNat = k at h hlt
    interval_cases k <;> rfl
  · generalize (w.extractLsb' 44 4).toNat = k at hlow hhigh
    interval_cases k <;> exact ⟨_, rfl⟩

/-! ### Request headers -/

theorem decodeHeader_encodeHeader (h : RequestHeader) : decodeHeader (encodeHeader h) = h := by
  cases h
  simp (disch := decide) only [decodeHeader, encodeHeader, BitVec.extractLsb'_cast, BitVec.extractLsb'_append_eq_of_le,
    BitVec.extractLsb'_append_eq_of_add_le, BitVec.extractLsb'_eq_self, BitVec.getLsbD_cast, BitVec.getLsbD_append,
    Nat.reduceSub, -Nat.reduceAdd]
  simp

/-- Settles O5: each field is read from the bits that it was written to, and the kind code selects the step. -/
theorem requestHeadersRoundTrip : Obligations.RequestHeadersRoundTrip := by
  unfold Obligations.RequestHeadersRoundTrip
  refine ⟨decodeHeader_encodeHeader, fun h words => ⟨?_, ?_, ?_, ?_, ?_, ?_, ?_, ?_, ?_, ?_, ?_, fun hkind => ?_⟩⟩
  case refine_12 =>
    have hlt := h.kind.isLt
    unfold requestStep
    generalize h.kind.toNat = k at hkind hlt
    interval_cases k <;> rfl
  all_goals
    intro hkind
    simp [requestStep, hkind]

/-! ### Claim words -/

theorem claimWord_toNat {score : Nat} (cls : ClaimClass) (n : StationNo) (h : score < 64) :
    (claimWord cls score n).toNat = cls.code.toNat * 512 + score * 8 + n.toNat := by
  have hscore : (BitVec.ofNat 6 score).toNat = score := by simp [Nat.mod_eq_of_lt h]
  have hn := n.isLt
  unfold claimWord
  rw [BitVec.toNat_cast, BitVec.toNat_append, BitVec.toNat_append, hscore, ← Nat.shiftLeft_add_eq_or_of_lt hn,
    ← Nat.shiftLeft_add_eq_or_of_lt (by omega), Nat.shiftLeft_eq, Nat.shiftLeft_eq]
  omega

theorem claimWord_ne_zero {score : Nat} (cls : ClaimClass) (n : StationNo) (hpos : 0 < score) (h : score < 64) :
    claimWord cls score n ≠ 0 := by
  intro hzero
  have hvalue := claimWord_toNat cls n h
  rw [hzero] at hvalue
  have hnone : (0 : ClaimBits).toNat = 0 := rfl
  omega

theorem ClaimClass.code_injective {a b : ClaimClass} (h : a.code.toNat = b.code.toNat) : a = b := by
  cases a <;> cases b <;> simp_all [ClaimClass.code]

/-- Words of scores within six bits compare by class, then score, then number. -/
theorem claimWord_lt_iff {a b : ClaimClass} {x y : Nat} {m n : StationNo} (hx : x < 64) (hy : y < 64) :
    (claimWord a x m).toNat < (claimWord b y n).toNat ↔
      a.code < b.code ∨ (a = b ∧ (x < y ∨ (x = y ∧ m < n))) := by
  have hm := m.isLt
  have hn := n.isLt
  have hcls : a = b ↔ a.code.toNat = b.code.toNat := ⟨fun h => h ▸ rfl, ClaimClass.code_injective⟩
  rw [claimWord_toNat a m hx, claimWord_toNat b n hy, BitVec.lt_def, BitVec.lt_def, hcls]
  omega

/-- The base of an entry's command stands from 4 to 16 (R118). -/
theorem baseScore_nextCommand (f : MemFields) (m : KnownMirror) :
    4 ≤ baseScore (f.nextCommand m) ∧ baseScore (f.nextCommand m) ≤ 16 := by
  have hcolumn (check : CheckValue) : baseScore (f.columnCommand check) = 16 := by
    unfold MemFields.columnCommand
    split <;> rfl
  unfold MemFields.nextCommand
  split
  · simp [baseScore]
  · split
    · simp [hcolumn]
    · simp [baseScore]

theorem directionBonus_le (last : Option Direction) (c : LaneCommand) : directionBonus last c ≤ 3 := by
  unfold directionBonus
  split <;> try split
  all_goals decide

/-- An entry claims with 62 for a write's retry, and otherwise with 4 to 19 above its age (R117, R118). -/
theorem weight_bounds (last : Option Direction) (phase : Phase) (f : MemFields) (m : KnownMirror) :
    4 ≤ (weight last phase f (f.nextCommand m)).2 ∧
      ((weight last phase f (f.nextCommand m)).2 = 62 ∨ (weight last phase f (f.nextCommand m)).2 ≤ 19 + f.age) := by
  by_cases hretry : phase = .retryWait ∧ f.kind.isWrite = true
  · obtain ⟨rfl, hwrite⟩ := hretry
    rw [weight_retryWait_write last _ hwrite]
    exact ⟨by decide, .inl rfl⟩
  · have hbase := baseScore_nextCommand f m
    have hbonus := directionBonus_le last (f.nextCommand m)
    rw [weight_score last _ (not_and_or.1 hretry), arithmeticScore]
    omega

theorem judgeRecord_eq_none_iff {r : Record} : judgeRecord r = none ↔ ∀ t ∈ recordTests r, t.1 = true := by
  simp [judgeRecord]

theorem rangeTest_iff {r : Record} {k low high : Nat} :
    (rangeTest r k low high).1 = true ↔ low ≤ recordField r k ∧ recordField r k ≤ high := by
  simp [rangeTest]

theorem ageMax_of_good {r : Record} (h : judgeRecord r = none) : (recordSettings r).ageMax ≤ 31 := by
  have hmem : rangeTest r 18 0 31 ∈ recordTests r := by simp [recordTests, fieldTests]
  exact (rangeTest_iff.1 (judgeRecord_eq_none_iff.1 h _ hmem)).2

theorem offers_score {s : State} {m : KnownMirror} {o : Offer} (h : o ∈ offers s m) : 5 ≤ o.score ∧ o.score < 64 := by
  simp only [offers, List.mem_cons, List.not_mem_nil, or_false] at h
  rcases h with rfl | rfl | rfl | rfl | rfl | rfl <;> simp

theorem controllerCandidate_score {s : State} {k : KeptFields} {m : KnownMirror} {c : Candidate}
    (h : controllerCandidate s k m = some c) : 5 ≤ c.score ∧ c.score < 64 := by
  obtain ⟨o, ho, rfl⟩ := Option.map_eq_some_iff.1 h
  exact offers_score (List.mem_of_find?_eq_some ho)

theorem refreshCandidate_score {s : State} {k : KeptFields} {c : Candidate} (h : refreshCandidate s k = some c) :
    5 ≤ c.score ∧ c.score < 64 := by
  unfold refreshCandidate at h
  split at h
  · cases h
  · exact controllerCandidate_score h

theorem recoverCandidate_score {s : State} {k : KeptFields} {c : Candidate} (h : recoverCandidate s k = some c) :
    c.score = 63 := by
  unfold recoverCandidate at h
  split at h
  · cases h
    rfl
  · cases h

theorem initCandidate_score {s : State} {k : KeptFields} {c : Candidate} (h : initCandidate s k = some c) :
    c.score = 63 := by
  unfold initCandidate at h
  split at h
  · cases h
  · split at h
    · cases h
      rfl
    · cases h

theorem maintenanceOf_score {s : State} {c : Candidate} (h : maintenanceOf s = some c) : 5 ≤ c.score ∧ c.score < 64 := by
  have hrecover {k : KeptFields} (h : recoverCandidate s k = some c) : 5 ≤ c.score ∧ c.score < 64 := by
    rw [recoverCandidate_score h]
    decide
  unfold maintenanceOf at h
  split at h
  · cases h
  · split at h
    · rw [initCandidate_score h]
      decide
    · exact refreshCandidate_score h
    · exact hrecover h
    · split at h
      · exact hrecover h
      · exact refreshCandidate_score h
    all_goals cases h

/-- Settles O6: the word's value is its fields' places, and every score stands above 0. -/
theorem claimWordsCompareByField : Obligations.ClaimWordsCompareByField := by
  unfold Obligations.ClaimWordsCompareByField
  refine ⟨⟨rfl, rfl, rfl, rfl⟩, fun cls score n h => claimWord_toNat cls n h,
    fun a b x y m n hx hy => claimWord_lt_iff hx hy, fun last phase f m => (weight_bounds last phase f m).1, ?_,
    fun r h => ageMax_of_good h, fun s c h => ?_⟩
  · intro s e f last m hs hage he hf
    obtain ⟨-, -, hentries, -⟩ := hs
    obtain ⟨hlow, hhigh⟩ := weight_bounds last e.phase f m
    have hwithin := (hentries e he f hf).1
    have hlt : (weight last e.phase f (f.nextCommand m)).2 < 64 := by omega
    exact ⟨hlt, fun n => claimWord_ne_zero _ n (by omega) hlt⟩
  · obtain ⟨hlow, hhigh⟩ := maintenanceOf_score h
    exact ⟨hlow, hhigh, claimWord_ne_zero _ _ (by omega) hhigh⟩

/-! ### The contest -/

/-- A station is still in contention after its bits from `n - 1` down where every bit that it leaves released samples 0. -/
theorem contest_stays_iff {word peers : ClaimBits} {n : Nat} :
    (contest word peers n).2 = true ↔ ∀ b < n, word.getLsbD b = false → peers.getLsbD b = false := by
  induction n with
  | zero => simp [contest]
  | succ n ih =>
    simp only [contest, Nat.lt_succ_iff_lt_or_eq, or_imp, forall_and, forall_eq]
    cases hword : word.getLsbD n <;> cases hpeers : peers.getLsbD n <;> simp [ih]

/-- A station drives the 1s of its word for as long as it is in contention (R133). -/
theorem contest_drives_iff {word peers : ClaimBits} {n : Nat} (hn : n ≤ 11) {b : Nat} :
    (contest word peers n).1.getLsbD b = true ↔
      b < n ∧ word.getLsbD b = true ∧ ∀ c, b < c → c < n → word.getLsbD c = false → peers.getLsbD c = false := by
  induction n with
  | zero => simp [contest]
  | succ n ih =>
    have hone : (1#11 <<< n).getLsbD b = decide (b = n) := by
      rw [BitVec.getLsbD_shiftLeft]
      rcases Nat.lt_trichotomy b n with h | rfl | h
      · simp [h, h.ne]
      · simp
        omega
      · have : b - n ≠ 0 := by omega
        simp [this, h.ne']
    have hih := ih (by omega)
    simp only [contest]
    split
    · next hword =>
      rw [BitVec.getLsbD_or, Bool.or_eq_true, hih, hone, decide_eq_true_iff]
      constructor
      · rintro (⟨hb, hbit, habove⟩ | rfl)
        · refine ⟨by omega, hbit, fun c hc hcn hlow => ?_⟩
          rcases Nat.lt_succ_iff_lt_or_eq.1 hcn with h | rfl
          · exact habove c hc h hlow
          · rw [hword] at hlow
            cases hlow
        · exact ⟨by omega, hword, fun c hc hcn => by omega⟩
      · rintro ⟨hb, hbit, habove⟩
        rcases Nat.lt_succ_iff_lt_or_eq.1 hb with h | rfl
        · exact .inl ⟨h, hbit, fun c hc hcn => habove c hc (by omega)⟩
        · exact .inr rfl
    · next hword =>
      have hlow : word.getLsbD n = false := by simpa using hword
      split
      · next hpeers =>
        have hnone : (0 : ClaimBits).getLsbD b = false := BitVec.getLsbD_zero
        rw [hnone]
        refine ⟨Bool.noConfusion, ?_⟩
        rintro ⟨hb, hbit, habove⟩
        rcases Nat.lt_succ_iff_lt_or_eq.1 hb with h | rfl
        · rw [habove n h (by omega) hlow] at hpeers
          cases hpeers
        · rw [hlow] at hbit
          cases hbit
      · next hpeers =>
        rw [hih]
        constructor
        · rintro ⟨hb, hbit, habove⟩
          refine ⟨by omega, hbit, fun c hc hcn hclow => ?_⟩
          rcases Nat.lt_succ_iff_lt_or_eq.1 hcn with h | rfl
          · exact habove c hc h hclow
          · simpa using hpeers
        · rintro ⟨hb, hbit, habove⟩
          rcases Nat.lt_succ_iff_lt_or_eq.1 hb with h | rfl
          · exact ⟨h, hbit, fun c hc hcn => habove c hc (by omega)⟩
          · rw [hlow] at hbit
            cases hbit

theorem foldl_or_getLsbD {α : Type} (f : α → ClaimBits) (skip : α → Prop) [DecidablePred skip] (l : List α)
    (init : ClaimBits) (b : Nat) :
    (l.foldl (fun lines j => if skip j then lines else lines ||| f j) init).getLsbD b = true ↔
      init.getLsbD b = true ∨ ∃ j ∈ l, ¬skip j ∧ (f j).getLsbD b = true := by
  induction l generalizing init with
  | nil => simp
  | cons a rest ih =>
    rw [List.foldl_cons, ih]
    by_cases ha : skip a
    · simp [ha]
    · simp [ha, or_assoc]

section
variable {n : Nat} {words driven : Fin n → ClaimBits}

theorem drivenByOthers_getLsbD {i : Fin n} {b : Nat} :
    (drivenByOthers n driven i).getLsbD b = true ↔ ∃ j, j ≠ i ∧ (driven j).getLsbD b = true := by
  simp [drivenByOthers, foldl_or_getLsbD driven fun j => j = i]

theorem sampledClaim_getLsbD {b : Nat} : (sampledClaim n driven).getLsbD b = true ↔ ∃ j, (driven j).getLsbD b = true := by
  have hfold := foldl_or_getLsbD driven (fun _ => False) (List.finRange n) 0 b
  simpa [sampledClaim] using hfold

/-- Every station plays the contest against the lines as the others drive them. -/
def Contested (words driven : Fin n → ClaimBits) : Prop :=
  ∀ i, driven i = (contest (words i) (drivenByOthers n driven i) 11).1

theorem Contested.drives_iff (h : Contested words driven) {i : Fin n} {b : Nat} :
    (driven i).getLsbD b = true ↔ b < 11 ∧ (words i).getLsbD b = true ∧
      ∀ c, b < c → c < 11 → (words i).getLsbD c = false → (drivenByOthers n driven i).getLsbD c = false := by
  rw [h i]
  exact contest_drives_iff le_rfl

/-- A bit in which the station is still in contention samples as its word has it, and only such. -/
theorem Contested.agrees_iff (h : Contested words driven) {i : Fin n} {b : Nat} :
    (∀ c, b ≤ c → c < 11 → (words i).getLsbD c = false → (drivenByOthers n driven i).getLsbD c = false) ↔
      ∀ c, b ≤ c → c < 11 → (words i).getLsbD c = (sampledClaim n driven).getLsbD c := by
  constructor
  · intro hstays c hb hc
    cases hword : (words i).getLsbD c with
    | true =>
      refine (sampledClaim_getLsbD.2 ⟨i, h.drives_iff.2 ⟨hc, hword, fun d hd => hstays d ?_⟩⟩).symm
      omega
    | false =>
      symm
      rw [← Bool.not_eq_true, sampledClaim_getLsbD]
      rintro ⟨j, hj⟩
      by_cases hji : j = i
      · rw [hji, h.drives_iff, hword] at hj
        simp at hj
      · have hothers := drivenByOthers_getLsbD.2 ⟨j, hji, hj⟩
        rw [hstays c hb hc hword] at hothers
        cases hothers
  · intro hagrees c hb hc hword
    rw [← Bool.not_eq_true, drivenByOthers_getLsbD]
    rintro ⟨j, -, hj⟩
    have hsampled := sampledClaim_getLsbD.2 ⟨j, hj⟩
    rw [← hagrees c hb hc, hword] at hsampled
    cases hsampled

theorem Contested.stays_iff (h : Contested words driven) {i : Fin n} :
    (contest (words i) (drivenByOthers n driven i) 11).2 = true ↔ words i = sampledClaim n driven := by
  rw [contest_stays_iff]
  have hagrees := h.agrees_iff (i := i) (b := 0)
  simp only [Nat.zero_le, true_imp_iff] at hagrees
  rw [hagrees]
  exact ⟨fun h => BitVec.eq_of_getLsbD_eq h, fun h c _ => by rw [h]⟩

/-- Two words that differ agree above some bit in which they differ. -/
theorem exists_top_difference {x y : ClaimBits} (h : x ≠ y) :
    ∃ c, c < 11 ∧ x.getLsbD c ≠ y.getLsbD c ∧ ∀ d, c < d → x.getLsbD d = y.getLsbD d := by
  obtain ⟨b, hb⟩ : ∃ b, x.getLsbD b ≠ y.getLsbD b := by
    by_contra hall
    push Not at hall
    exact h (BitVec.eq_of_getLsbD_eq fun i _ => hall i)
  have hbound {c : Nat} (hc : x.getLsbD c ≠ y.getLsbD c) : c < 11 := by
    by_contra hle
    rw [BitVec.getLsbD_of_ge x c (by omega), BitVec.getLsbD_of_ge y c (by omega)] at hc
    exact hc rfl
  have hfind := Nat.findGreatest_spec (P := fun c => x.getLsbD c ≠ y.getLsbD c) (hbound hb).le hb
  refine ⟨_, hbound hfind, hfind, fun d hd => ?_⟩
  by_contra hne
  exact Nat.findGreatest_is_greatest hd (hbound hne).le hne

theorem toNat_lt_of_top {x y : ClaimBits} {c : Nat} (hx : x.getLsbD c = false) (hy : y.getLsbD c = true)
    (habove : ∀ d, c < d → x.getLsbD d = y.getLsbD d) : x.toNat < y.toNat := Nat.lt_of_testBit c hx hy habove

/-- A word that is not the sampled one stands below it at its first bit that differs. -/
theorem Contested.below (h : Contested words driven) {i : Fin n} (hne : words i ≠ sampledClaim n driven) :
    ∃ c, (words i).getLsbD c = false ∧ (sampledClaim n driven).getLsbD c = true ∧
      ∀ d, c < d → (words i).getLsbD d = (sampledClaim n driven).getLsbD d := by
  obtain ⟨c, hc, hdiff, habove⟩ := exists_top_difference hne
  cases hword : (words i).getLsbD c with
  | false => exact ⟨c, hword, by simpa [hword] using hdiff, habove⟩
  | true =>
    have hstays := (h.agrees_iff (i := i) (b := c + 1)).2 fun d hd _ => habove d hd
    have hdrives : (driven i).getLsbD c = true := h.drives_iff.2 ⟨hc, hword, fun d hd => hstays d hd⟩
    exact absurd (hword.trans (sampledClaim_getLsbD.2 ⟨i, hdrives⟩).symm) hdiff

theorem Contested.le_sampled (h : Contested words driven) (i : Fin n) :
    (words i).toNat ≤ (sampledClaim n driven).toNat := by
  by_cases heq : words i = sampledClaim n driven
  · rw [heq]
  · obtain ⟨c, hlow, hhigh, habove⟩ := h.below heq
    exact (toNat_lt_of_top hlow hhigh habove).le

/-- The highest word is the sampled one. -/
theorem Contested.sampled_of_highest (h : Contested words driven) {i : Fin n}
    (hmax : ∀ j, (words j).toNat ≤ (words i).toNat) : words i = sampledClaim n driven := by
  by_contra hne
  obtain ⟨c, hlow, hhigh, habove⟩ := h.below hne
  obtain ⟨j, hj⟩ := sampledClaim_getLsbD.1 hhigh
  obtain ⟨-, hword, hstays⟩ := h.drives_iff.1 hj
  have hagrees := (h.agrees_iff (i := j) (b := c + 1)).1 fun d hd => hstays d hd
  have hlt : (words i).toNat < (words j).toNat := by
    refine toNat_lt_of_top hlow hword fun d hd => ?_
    by_cases hbound : d < 11
    · rw [habove d hd, hagrees d hd hbound]
    · rw [BitVec.getLsbD_of_ge (words i) d (by omega), BitVec.getLsbD_of_ge (words j) d (by omega)]
  exact absurd (hmax j) (by omega)

theorem Contested.stays_iff_highest (h : Contested words driven) {i : Fin n} :
    (contest (words i) (drivenByOthers n driven i) 11).2 = true ↔ ∀ j, (words j).toNat ≤ (words i).toNat := by
  rw [h.stays_iff]
  exact ⟨fun heq j => heq ▸ h.le_sampled j, h.sampled_of_highest⟩

end

/-- Settles O7: a station is in contention for as long as the sampled bits are its word's, and the first bit in which a word
differs from them is a 0 of that word. -/
theorem highestClaimWordWins : Obligations.HighestClaimWordWins := by
  unfold Obligations.HighestClaimWordWins
  intro n words driven hplay
  have h : Contested words driven := hplay
  refine ⟨fun i => h.stays_iff_highest, fun i hi => ?_, fun hn hdistinct => ?_, ?_⟩
  · have hsampled := h.stays_iff.1 hi
    refine ⟨BitVec.eq_of_getLsbD_eq fun b hb => ?_, hsampled.symm⟩
    rw [Bool.eq_iff_iff, h.drives_iff]
    refine ⟨fun hd => hd.2.1, fun hword => ⟨hb, hword, fun c _ hc => contest_stays_iff.1 hi c hc⟩⟩
  · have : Nonempty (Fin n) := ⟨⟨0, hn⟩⟩
    obtain ⟨i, hi⟩ := Finite.exists_max fun j => (words j).toNat
    refine ⟨i, fun j => h.stays_iff_highest.trans ⟨fun hj => hdistinct j i ?_, ?_⟩⟩
    · exact BitVec.eq_of_toNat_eq (le_antisymm (hi j) (hj i))
    · rintro rfl
      exact hi
  · rintro rfl
    rfl

end Sys2Proof.Machine
end

section
/-! PROOFS. The lines and the expiries: what each sample and each expiry changes (O30 to O36, O40, O41). -/

namespace Sys2Proof.Machine

/-! ### The roster -/

theorem mem_stationNumbers (n : StationNo) : n ∈ stationNumbers := by
  revert n
  decide

theorem stationNumbers_sorted : stationNumbers.Pairwise (· < ·) := by decide

/-- The first station number that has a property is the least that has it. -/
theorem find_stationNumbers_eq_some_iff {p : StationNo → Bool} {n : StationNo} :
    stationNumbers.find? p = some n ↔ p n = true ∧ ∀ k, p k = true → n ≤ k := by
  rw [List.find?_eq_some_iff_append]
  constructor
  · rintro ⟨hn, as, bs, hl, has⟩
    refine ⟨hn, fun k hk => ?_⟩
    have hsorted := stationNumbers_sorted
    have hmem := mem_stationNumbers k
    rw [hl] at hsorted hmem
    rcases List.mem_append.1 hmem with hbefore | hafter
    · exact absurd hk (by simpa using has k hbefore)
    · rcases List.mem_cons.1 hafter with rfl | hrest
      · exact BitVec.le_refl _
      · obtain ⟨-, hcons, -⟩ := List.pairwise_append.1 hsorted
        exact BitVec.le_of_lt ((List.pairwise_cons.1 hcons).1 k hrest)
  · rintro ⟨hn, hleast⟩
    obtain ⟨as, bs, hl⟩ := List.append_of_mem (mem_stationNumbers n)
    refine ⟨hn, as, bs, hl, fun a ha => ?_⟩
    have hsorted := stationNumbers_sorted
    rw [hl] at hsorted
    obtain ⟨-, -, hlt⟩ := List.pairwise_append.1 hsorted
    have hbelow : a < n := hlt a ha n List.mem_cons_self
    by_contra hp
    have hnot := hleast a (by simpa using hp)
    exact absurd hbelow (BitVec.not_lt.2 hnot)

theorem lowestPresent_eq_some_iff {roster : StationSet} {n : StationNo} :
    lowestPresent roster = some n ↔ inRoster roster n = true ∧ ∀ k, inRoster roster k = true → n ≤ k :=
  find_stationNumbers_eq_some_iff

theorem inRoster_ext {a b : StationSet} (h : ∀ k, inRoster a k = inRoster b k) : a = b := by
  refine BitVec.eq_of_getLsbD_eq fun i hi => ?_
  have hbit := h (BitVec.ofNat 3 i)
  have hsame : (BitVec.ofNat 3 i).toNat = i := by simp [Nat.mod_eq_of_lt hi]
  simpa only [inRoster, hsame] using hbit

theorem inRoster_stationBit (n k : StationNo) : inRoster (stationBit n) k = decide (k = n) := by
  revert n k
  decide

theorem inRoster_add (roster : StationSet) (n k : StationNo) :
    inRoster (roster ||| stationBit n) k = (inRoster roster k || decide (k = n)) := by
  rw [← inRoster_stationBit n k]
  exact BitVec.getLsbD_or

theorem inRoster_remove (roster : StationSet) (n k : StationNo) :
    inRoster (roster &&& ~~~ stationBit n) k = (inRoster roster k && decide (k ≠ n)) := by
  have hbit : (~~~ stationBit n).getLsbD k.toNat = decide (k ≠ n) := by
    have hk : k.toNat < 8 := k.isLt
    have hset := inRoster_stationBit n k
    unfold inRoster at hset
    rw [BitVec.getLsbD_not, hset]
    simp [hk]
  unfold inRoster
  rw [BitVec.getLsbD_and, hbit]

/-! ### Faults and the duty pointer -/

theorem faultNoted_recordFault (k : FaultKind) (detail : Byte) (s : State) :
    FaultNoted k detail s.faults (recordFault k detail s).faults := by
  refine ⟨rfl, ?_, rfl⟩
  show s.faults.first.orElse _ = _
  cases s.faults.first <;> rfl

theorem followRefresh_eq (s : State) : followRefresh s = setDuty (followRefresh s).controller.duty s := by
  unfold followRefresh
  (repeat' split) <;> rfl

theorem settleDuty_eq (s : State) : settleDuty s = setDuty (settleDuty s).controller.duty s := by
  unfold settleDuty
  split <;> rfl

theorem observedRefresh_eq_some_iff {s : State} {i : StationNo} :
    observedRefresh s = some i ↔ ∃ check, s.work.observed = some (.command i (.refresh check)) := by
  unfold observedRefresh
  split
  · next j check h =>
    rw [h]
    constructor
    · rintro ⟨⟩
      exact ⟨check, rfl⟩
    · rintro ⟨c, ⟨⟩⟩
      rfl
  · next h =>
    simp only [reduceCtorEq, false_iff]
    rintro ⟨check, hobs⟩
    exact h i check hobs

theorem observedRefresh_eq_none {s : State} (h : ∀ i check, s.work.observed ≠ some (.command i (.refresh check))) :
    observedRefresh s = none := by
  rw [Option.eq_none_iff_forall_not_mem]
  rintro i hi
  obtain ⟨check, hobs⟩ := observedRefresh_eq_some_iff.1 hi
  exact h i check hobs

theorem followRefresh_duty {s : State} {i : StationNo} {check : CheckValue}
    (h : s.work.observed = some (.command i (.refresh check))) (hkeeps : keepsDuty s.membership.state = true) :
    (followRefresh s).controller.duty = nextInRoster s.membership.roster i := by
  unfold followRefresh
  rw [observedRefresh_eq_some_iff.2 ⟨check, h⟩]
  dsimp only
  rw [if_pos hkeeps]
  rfl

/-! ### The sample steps -/

/-- A step of the slot's end whose occasion has come, in a slot whose end has begun. -/
theorem whenDue_ended {due : State → Bool} {act : State → State} {s : State} (hended : s.work.ended = true)
    (hdue : due s = true) : whenDue due act s = .next (act s) := by
  unfold whenDue
  rw [reachEnd_ended hended, if_pos hdue]

theorem takeRise_roster (n : StationNo) (s : State) :
    (takeRise n s).membership.roster = s.membership.roster ||| stationBit n := by
  simp [takeRise, setRoster]

/-- A rise changes the roster, and of the rest the duty pointer alone (R149). -/
theorem takeRise_eq (n : StationNo) (s : State) :
    takeRise n s =
      setDuty (takeRise n s).controller.duty (setRoster (s.membership.roster ||| stationBit n) s) := by
  have hsettle := settleDuty_eq (setRoster (s.membership.roster ||| stationBit n) s)
  have hfollow := followRefresh_eq (settleDuty (setRoster (s.membership.roster ||| stationBit n) s))
  unfold takeRise
  rw [hsettle] at hfollow ⊢
  exact hfollow

/-- Settles O30: the roster with the station's bit, and the pointer as a fall or a REFRESH of the slot has it. -/
theorem presenceRiseJoinsRoster : Obligations.PresenceRiseJoinsRoster := by
  unfold Obligations.PresenceRiseJoinsRoster
  constructor
  · intro s n hstate hended hroster
    refine ⟨takeRise n s, whenDue_ended hended (by simp [riseDue, samplesLines, hstate, hroster]), ?_, ?_, ?_, ?_⟩
    · rw [takeRise_roster]
      exact takeRise_eq n s
    · intro k
      rw [takeRise_roster, inRoster_add]
    · intro hobs
      have hrise : takeRise n s = settleDuty (setRoster (s.membership.roster ||| stationBit n) s) :=
        followRefresh_none (observedRefresh_eq_none (by simpa [setRoster] using hobs))
      rw [hrise]
      refine ⟨fun hfell => ?_, fun m hfell hduty => ?_⟩
      · simp [settleDuty, setRoster, hfell]
      · obtain ⟨d, hd⟩ := Option.ne_none_iff_exists'.1 hduty
        simp [settleDuty, setRoster, hfell, hd, setDuty]
    · intro i check hobs hkeeps
      rw [takeRise, followRefresh_duty (by simpa [setRoster] using hobs) (by simpa [setRoster] using hkeeps)]
      simp [setRoster]
  · intro s n hroster
    show whenDue _ _ s = _
    unfold whenDue
    rw [if_neg (by simp [riseDue, hroster])]

/-! ### A presence fall -/

theorem fenceFall_of_other {s : State} {n : StationNo} (h : ∀ f, s.mirror.fence = some f → f.issuer ≠ n) :
    fenceFall n s = s := by
  unfold fenceFall
  split
  · rfl
  · next f hf => rw [if_neg (h f hf)]

theorem fenceFall_of_own {s : State} {f : WriteFence} (hf : s.mirror.fence = some f) :
    fenceFall f.issuer s =
      dropFence (if f.final then s else recordFault .orphanWrite (stationDetail f.issuer) s) := by
  simp [fenceFall, hf]

/-- A pointer that names the fallen station moves, and no other (R149). -/
theorem dutyFall_controller (n : StationNo) (s : State) : (dutyFall n s).controller =
    { s.controller with
      duty := if s.controller.duty = some n then nextInRoster s.membership.roster n else s.controller.duty } := by
  unfold dutyFall
  split <;> rfl

/-- Settles O31: the fall's parts, each on the block that it changes. -/
theorem presenceFallLeavesRoster : Obligations.PresenceFallLeavesRoster := by
  unfold Obligations.PresenceFallLeavesRoster
  intro s n hstate hended hroster hobs
  let r := setRoster (s.membership.roster &&& ~~~ stationBit n)
    (s.withWork { s.work with fell := s.work.fell ||| stationBit n })
  have hfollow : takeFall n s = dutyFall n (alertedFall n (fenceFall n r)) :=
    followRefresh_none (observedRefresh_eq_none (by
      have hkept : (dutyFall n (alertedFall n (fenceFall n r))).work.observed = s.work.observed := by
        unfold dutyFall
        split <;> simp [r, setRoster]
      rwa [hkept]))
  have hmembership : (takeFall n s).membership =
      { s.membership with roster := s.membership.roster &&& ~~~ stationBit n } := by
    rw [hfollow]
    simp [r, setRoster]
  have hcontroller : (alertedFall n (fenceFall n r)).controller = s.controller := by simp [r, setRoster]
  have hmirror : (takeFall n s).mirror = (fenceFall n r).mirror := by rw [hfollow]; simp
  have hfaults : (takeFall n s).faults = (fenceFall n r).faults := by rw [hfollow]; simp
  have hunit : (takeFall n s).dataUnit = (alertedFall n (fenceFall n r)).dataUnit := by rw [hfollow]; simp
  refine ⟨takeFall n s, whenDue_ended hended (by simp [fallDue, samplesLines, hstate, hroster]),
    ⟨by simp, by simp, by simp, by simp⟩, ?_, fun k => ?_, ?_, ?_, ?_, ?_, fun f hf hn => ?_, fun h => ?_, fun w hw => ?_,
    fun k => ?_, by simp, by simp, by simp, by simp, by simp⟩
  · rw [hmembership]
  · rw [hmembership, inRoster_remove]
  · rw [hfollow, dutyFall_controller, hcontroller]
  · rw [hmembership, hfollow, dutyFall_controller, hcontroller]
    simp [r, setRoster]
  · rw [hmirror]
    unfold fenceFall
    (repeat' split) <;> rfl
  · rw [hmirror]
    unfold fenceFall
    (repeat' split) <;> rfl
  · subst hn
    have hown : fenceFall f.issuer r = _ := fenceFall_of_own (f := f) hf
    refine ⟨by rw [hmirror, hown]; rfl, ?_, fun hfinal => ?_, fun hfinal => ?_⟩
    · rw [hunit]
      unfold alertedFall
      (repeat' split) <;> simp [hown, dropFence]
    · rw [hfaults, hown, if_pos hfinal]
      rfl
    · rw [hfaults, hown, if_neg (by simp [hfinal])]
      exact faultNoted_recordFault _ _ r
  · have hother : fenceFall n r = r := fenceFall_of_other h
    rw [hmirror, hfaults, hother]
    exact ⟨rfl, rfl⟩
  · have hlast : (fenceFall n r).dataUnit.lastAlerted = some w := by
      unfold fenceFall
      (repeat' split) <;> simpa [r, setRoster, dropFence] using hw
    rw [hunit]
    simp only [alertedFall, hlast]
    split
    · rfl
    · exact hlast
  · have hfell : (takeFall n s).work.fell = s.work.fell ||| stationBit n := by
      rw [hfollow]
      unfold dutyFall
      split <;> simp [r, setRoster]
    rw [hfell, inRoster_add]

/-! ### The ready and quiet lines -/

theorem sampleReady_false (m : KnownMirror) : m.sampleReady false = m := by
  unfold KnownMirror.sampleReady
  split <;> rfl

/-- The station with the ready line sampled, before its state follows. -/
def readySampled (high : Bool) (s : State) : State :=
  (s.withLines { s.lines with readySample := high }).withMirror
    { s.mirror with known := s.mirror.known.map fun m => m.sampleReady high }

theorem takeReady_true (s : State) : takeReady true s = readyHigh (readySampled true s) := rfl

theorem takeReady_false (s : State) : takeReady false s = s.withLines { s.lines with readySample := false } := by
  have hknown : (s.mirror.known.map fun m => m.sampleReady false) = s.mirror.known := by
    cases s.mirror.known <;> simp [sampleReady_false]
  show (s.withLines _).withMirror { s.mirror with known := s.mirror.known.map fun m => m.sampleReady false } = _
  rw [hknown]
  rfl

theorem readyHigh_of_synchronized {s : State} (hstate : s.membership.state = .listening)
    (hknown : s.mirror.known.isSome = true) : readyHigh s = enterMember s := by
  simp [readyHigh, hstate, hknown]

theorem readyHigh_of_initializing {s : State} (hstate : s.membership.state = .initializing) :
    readyHigh s = enterListening s := by
  simp [readyHigh, hstate]

/-- Elsewhere the ready line moves no station (R45, R50). -/
theorem readyHigh_of_settled {s : State} (hinit : s.membership.state ≠ .initializing)
    (hlisten : s.membership.state = .listening → s.mirror.known = none) : readyHigh s = s := by
  unfold readyHigh
  split
  · next h => simp [hlisten h]
  · next h => exact absurd h hinit
  · rfl

theorem timerRuns_iff {s : State} : timerRuns s = true ↔ ∀ m, s.mirror.known = some m → m.channel ≠ .sleeping := by
  unfold timerRuns
  split
  · next m hm =>
    rw [decide_eq_true_iff]
    refine ⟨fun h k hk => ?_, fun h => h m hm⟩
    rw [hm] at hk
    exact Option.some.inj hk ▸ h
  · next hm => simp [hm]

theorem enterMember_started_account (s : State) : AccountStarted (enterMember s) := by
  refine ⟨rfl, rfl, rfl, rfl, ?_⟩
  exact timerRuns_iff (s := s.withMembership { s.membership with state := .member, initStep := none })

theorem endSlot_account (s : State) (h : s.membership.state ≠ .off) :
    (endSlot s).controller = (settleSlot s).controller ∧ (endSlot s).mirror = (settleSlot s).mirror := by
  rw [endSlot_of_ne_off h]
  simp [finishSlot]

/-- Where the ready line does not end an initialization, it leaves the mirror as it sampled it. -/
theorem readyHigh_mirror {s : State} (hinit : s.membership.state ≠ .initializing) : (readyHigh s).mirror = s.mirror := by
  unfold readyHigh
  split
  · split
    · simp
    · rfl
  · next h => exact absurd h hinit
  · rfl

theorem readyHigh_kept (s : State) : (readyHigh s).mirror.kept = s.mirror.kept := by
  by_cases hinit : s.membership.state = .initializing
  · rw [readyHigh_of_initializing hinit, enterListening_mirror]
  · rw [readyHigh_mirror hinit]

/-- Settles O32: the sample first, and then what the station state makes of a high line. -/
theorem readyLineMakesMember : Obligations.ReadyLineMakesMember := by
  unfold Obligations.ReadyLineMakesMember
  refine ⟨fun s hstate hended => ?_, fun s hpending hstate hstarted => ?_, fun s hstate hended => ?_⟩
  · show whenDue _ _ s = _
    rw [whenDue_ended hended (by simp [samplesLines, hstate]), takeReady_false]
  · refine ⟨endSlot s, by simp [step, hpending], fun hactive => ?_⟩
    obtain ⟨hcontroller, hmirror⟩ := endSlot_account s hstate
    rw [hcontroller] at hactive ⊢
    rw [hmirror, settleSlot_counting s hstarted hactive, timerRuns_iff]
  · have hr : (readySampled true s).membership = s.membership := rfl
    refine ⟨takeReady true s, whenDue_ended hended (by simp [samplesLines, hstate]), ?_⟩
    rw [takeReady_true]
    refine ⟨by simp [readySampled], by simp [readySampled], by simp [readySampled], by simp [readySampled], ?_,
      by simp [readySampled], by simp [readySampled], by simp [readySampled], fun hlisten hknown => ?_, fun hinit => ?_,
      fun hinit m hm => ?_, fun hinit hlisten => ?_⟩
    · rw [readyHigh_kept]
      rfl
    · have hsampled : (readySampled true s).mirror.known.isSome = true := by simpa [readySampled] using hknown
      rw [readyHigh_of_synchronized (s := readySampled true s) hlisten hsampled]
      exact ⟨enterMember_membership _, enterMember_started_account _, rfl, by simpa using hsampled⟩
    · rw [readyHigh_of_initializing (s := readySampled true s) hinit, enterListening_membership, enterListening_mirror]
      exact ⟨rfl, rfl, rfl, rfl⟩
    · refine ⟨m.sampleReady true, ?_, ?_⟩
      · rw [readyHigh_mirror (s := readySampled true s) hinit]
        simp [readySampled, hm]
      · simp [KnownMirror.sampleReady_channel]
    · rw [readyHigh_of_settled (s := readySampled true s) hinit fun h => by simp [readySampled, hlisten h]]
      exact ⟨rfl, rfl, rfl, rfl⟩

theorem observedQuiet_iff {s : State} :
    observedQuiet s = true ↔ ∃ i check d, s.work.observed = some (.command i (.closeAll check .quiet d)) := by
  unfold observedQuiet
  split
  · next i check d h => simp [h]
  · next h =>
    simp only [Bool.false_eq_true, false_iff]
    rintro ⟨i, check, d, hobs⟩
    exact h i check d hobs

/-- Settles O33: the hold follows a low line, and a high line with a CLOSE_ALL(QUIET) of the slot. -/
theorem quietLineOwnsQuietHold : Obligations.QuietLineOwnsQuietHold := by
  unfold Obligations.QuietLineOwnsQuietHold
  intro s high hstate hended
  have hknown : (takeQuiet high s).mirror.known = s.mirror.known.map (quietSampled high (observedQuiet s)) := rfl
  refine ⟨takeQuiet high s, whenDue_ended hended (by simp [samplesLines, hstate]), rfl, fun h => ?_, fun m hm => ?_⟩
  · rw [hknown, h]
    rfl
  · rw [hknown, hm]
    refine ⟨?_, ?_, ?_⟩
    · rintro rfl
      rfl
    · rintro rfl hquiet
      simp [quietSampled, observedQuiet_iff.2 hquiet]
    · rintro rfl hquiet
      have hnot : observedQuiet s = false := by
        rw [← Bool.not_eq_true, observedQuiet_iff]
        rintro ⟨i, check, d, h⟩
        exact hquiet i check d h
      simp [quietSampled, hnot]

/-! ### Expiries -/

/-- Settles O34: the four conditions of the expiry are those of the statement. -/
theorem listenWaitBeginsInitialization : Obligations.ListenWaitBeginsInitialization := by
  unfold Obligations.ListenWaitBeginsInitialization
  intro s hstate hended hwait hready hpresent hlowest
  have hfirst : lowestPresent s.membership.roster = some s.number := by
    refine lowestPresent_eq_some_iff.2 ⟨hpresent, fun k hk => ?_⟩
    by_contra hle
    rw [hlowest k (BitVec.not_le.1 hle)] at hk
    cases hk
  exact whenDue_ended hended (by simp [listenWaitDue, hstate, hwait, hready, hfirst])

theorem periodDue_iff {s : State} : periodDue s = true ↔ s.controller.active = true ∧ s.controller.counting = true ∧
    s.work.periodSettled = false ∧ s.timing.refreshPeriod ≤ s.controller.periodCount + 1 := by
  simp [periodDue, and_assoc]

/-- Settles O35: the expiry at a debt below 7 and at 7, and the slot that does not reach the period. -/
theorem periodExpiryRaisesDebt : Obligations.PeriodExpiryRaisesDebt := by
  unfold Obligations.PeriodExpiryRaisesDebt
  refine ⟨fun s hactive hcounting hsettled hended hperiod hdebt => ?_,
    fun s hactive hcounting hsettled hended hperiod hdebt => ?_, fun s hactive hcounting hsettled hperiod => ?_⟩
  · show whenDue _ _ s = _
    rw [whenDue_ended hended (periodDue_iff.2 ⟨hactive, hcounting, hsettled, hperiod⟩)]
    unfold expirePeriod
    rw [if_pos (show s.controller.debt < Config.maxDebt from hdebt)]
  · refine ⟨expirePeriod s, whenDue_ended hended (periodDue_iff.2 ⟨hactive, hcounting, hsettled, hperiod⟩), ?_⟩
    unfold expirePeriod
    rw [if_neg (show ¬s.controller.debt < Config.maxDebt by simp [hdebt, Config.maxDebt])]
    refine ⟨rfl, ?_⟩
    cases s.controller.duty <;> exact faultNoted_recordFault _ _ _
  · have hdue : periodDue s = false := by
      rw [← Bool.not_eq_true, periodDue_iff]
      omega
    have hcount : countPeriod s =
        (s.withController { s.controller with periodCount := s.controller.periodCount + 1 }).withWork
          { s.work with periodSettled := true } := by
      simp [countPeriod, hdue, hactive, hcounting, hsettled]
    refine ⟨hcount, by simp [hcount, periodDue], ?_⟩
    have hreach : periodDue (reachEnd s) = false := by
      have hsame : (reachEnd s).controller = s.controller := by simp
      rw [← Bool.not_eq_true, periodDue_iff, hsame]
      simp only [reachEnd_frame]
      omega
    show whenDue _ _ s = _
    unfold whenDue
    rw [if_neg (by simp [hreach])]

/-- Settles O36: the count that reaches IDLE_WAIT leaves the permission as the vote's last condition. -/
theorem idleWaitCastsVote : Obligations.IdleWaitCastsVote := by
  unfold Obligations.IdleWaitCastsVote
  intro s hmember hempty hended hsettled hwait hreached
  have hrises : idleRises s = true := by simp [idleRises, hmember, hempty, hsettled]
  have hdue : idleDue s = true := by simp [idleDue, hrises, hreached]
  have hmin : s.settings.idleWait ≤ min (s.controller.idleCount + 1) 65535 := le_min hreached hwait
  have hexec : exec .idleWaitExpiry s = whenDue idleDue (fun s => recastVote (countIdle s)) s := rfl
  rw [hexec, whenDue_ended hended hdue]
  simp [countIdle, hrises, recastVote, voteStands, hmember, hempty, saturatingSucc, hmin]
  rfl

/-! ### The fence's limit -/

theorem expireFence_due {s : State} {f : WriteFence} (hf : s.mirror.fence = some f) (hlimit : f.limit ≤ s.slot) :
    expireFence s = dropFence
      (if f.issuer = s.number then failFencedEntry (expireAlerted s)
        else if f.final then expireAlerted s
        else recordFault .orphanWrite (stationDetail f.issuer) (expireAlerted s)) := by
  have hfence : (expireAlerted s).mirror.fence = some f := by simpa using hf
  have hslot : f.limit ≤ (expireAlerted s).slot := by simpa using hlimit
  have hnumber : (expireAlerted s).number = s.number := by simp
  unfold expireFence
  dsimp only
  rw [hfence]
  dsimp only
  rw [if_pos hslot, hnumber]

theorem expireAlerted_fencedEntry (s : State) : (expireAlerted s).dataUnit.fencedEntry = s.dataUnit.fencedEntry := by
  unfold expireAlerted
  (repeat' split) <;> rfl

/-- Settles O40: the removal by `expireFence_due`, at another holder and at the issuer. -/
theorem fenceLimitRemovesFence : Obligations.FenceLimitRemovesFence := by
  unfold Obligations.FenceLimitRemovesFence
  refine ⟨fun s h => congrArg _ (expireFence_calm h), fun s f hf hlimit => ?_⟩
  let u := expireAlerted s
  have hqueue : u.queue = s.queue := by simp [u]
  have hfaults : u.faults = s.faults := by simp [u]
  let v := if f.issuer = s.number then failFencedEntry u
    else if f.final then u else recordFault .orphanWrite (stationDetail f.issuer) u
  have hdue : expireFence s = dropFence v := expireFence_due hf hlimit
  have hkept : v.pending = s.pending ∧ v.slot = s.slot ∧ v.lines = s.lines ∧ v.loader = s.loader ∧ v.mirror = s.mirror ∧
      v.membership = s.membership ∧ v.table = s.table ∧ v.controller = s.controller ∧ v.port = s.port ∧
      v.counters = s.counters ∧ v.memory = s.memory := by
    simp only [v]
    (repeat' split) <;> simp [u]
  obtain ⟨hpending, hslot, hlines, hloader, hmirror, hmembership, htable, hcontroller, hport, hcounters, hmemory⟩ := hkept
  have hown (h : f.issuer = s.number) : v = failFencedEntry u := if_pos h
  have hfenced : u.dataUnit.fencedEntry = s.dataUnit.fencedEntry := expireAlerted_fencedEntry s
  refine ⟨dropFence v, congrArg _ hdue, ⟨hpending, hslot, hlines, hloader⟩, ?_, rfl, hmembership, htable, hcontroller, hport,
    hcounters, hmemory, fun hother => ?_, fun hissuer hnone => ?_, fun e hissuer hsome hfind => ?_⟩
  · rw [dropFence_mirror, hmirror]
  · have hv : v = if f.final then u else recordFault .orphanWrite (stationDetail f.issuer) u := if_neg hother
    refine ⟨?_, fun hfinal => ?_, fun hfinal => ?_⟩
    · show v.queue = s.queue
      rw [hv]
      split <;> exact hqueue
    · show v.faults = s.faults
      rw [hv, if_pos hfinal, hfaults]
    · show FaultNoted _ _ s.faults v.faults
      rw [hv, if_neg (by simp [hfinal]), ← hfaults]
      exact faultNoted_recordFault _ _ u
  · have hv : v = u := by
      rw [hown hissuer, failFencedEntry, hfenced, hnone]
    rw [hv]
    exact ⟨hqueue, hfaults⟩
  · have hentry : findEntry e.tag u = some e := by rwa [findEntry, hqueue]
    have hv : v = if e.phase = .retryWait then failWrite e.tag u else u := by
      rw [hown hissuer, failFencedEntry, hfenced, hsome]
      dsimp only
      rw [hentry]
    rw [hv]
    refine ⟨fun hphase => ?_, fun hphase => ?_⟩
    · rw [if_neg hphase]
      exact ⟨hqueue, hfaults⟩
    · rw [if_pos hphase, ← hqueue, ← hfaults]
      exact ⟨rfl, faultNoted_recordFault _ _ (answerEntry e.tag .dataError u)⟩

/-! ### The channel left behind -/

/-- What every entry to LISTENING, DETACHED or WITHDRAWN leaves of the station (R43, R55, R62). -/
def LeftChannel (s t : State) : Prop :=
  OuterKept s t ∧ t.queue = s.queue ∧ t.port = s.port ∧ t.counters = s.counters ∧ t.memory = s.memory ∧
    t.mirror = { s.mirror with known := none, fence := none } ∧ t.table = s.table.emptied ∧
    t.controller.active = false ∧ t.controller.debt = 0 ∧ t.controller.vote = false ∧
    t.membership.roster = s.membership.roster ∧ t.membership.drainTarget = none

theorem stopAccount_permission (s : State) : (stopAccount s).controller.permission = s.controller.permission := by
  unfold stopAccount expirePeriod
  dsimp only
  (repeat' split) <;> rfl

theorem leaveChannel_permission (st : StationState) (s : State) :
    (leaveChannel st s).controller.permission = s.controller.permission := stopAccount_permission s

theorem leaveChannel_left (st : StationState) (s : State) : LeftChannel s (leaveChannel st s) := by
  obtain ⟨hactive, hdebt, -, hvote⟩ := leaveChannel_account st s
  refine ⟨⟨by simp, by simp, by simp, by simp⟩, by simp, by simp, by simp, by simp, leaveChannel_mirror st s,
    leaveChannel_table st s, hactive, hdebt, hvote, ?_, ?_⟩
  · rw [leaveChannel_membership]
  · rw [leaveChannel_membership]

/-- A REFRESH of the slot moves the pointer alone, after the entry to LISTENING (R148). -/
theorem enterListening_controller (s : State) : (enterListening s).controller =
    { (leaveChannel .listening s).controller with duty := (enterListening s).controller.duty } := by
  let l := leaveChannel .listening s
  exact congrArg State.controller (followRefresh_eq
    ((l.withMembership { l.membership with silence := 0 }).withWork { l.work with silenceSettled := true }))

theorem enterListening_permission (s : State) :
    (enterListening s).controller.permission = s.controller.permission := by
  rw [enterListening_controller]
  exact leaveChannel_permission .listening s

theorem enterListening_left (s : State) : LeftChannel s (enterListening s) := by
  obtain ⟨hactive, hdebt, -, hvote⟩ := leaveChannel_account .listening s
  refine ⟨⟨by simp, by simp, by simp, by simp⟩, by simp, by simp, by simp, by simp, enterListening_mirror s,
    enterListening_table s, ?_, ?_, ?_, ?_, ?_⟩
  · rw [enterListening_controller]
    exact hactive
  · rw [enterListening_controller]
    exact hdebt
  · rw [enterListening_controller]
    exact hvote
  · rw [enterListening_membership]
  · rw [enterListening_membership]

/-- A change of the faults alone comes before the entry. -/
theorem LeftChannel.of_recordFault {s t : State} {k : FaultKind} {d : Byte} (h : LeftChannel (recordFault k d s) t) :
    LeftChannel s t := h

theorem LeftChannel.of_resetPermission {s t : State} (h : LeftChannel (resetPermission s) t) : LeftChannel s t := by
  simpa only [LeftChannel, OuterKept, resetPermission_frame] using h

theorem badRecord_left (detail : Nat) (s : State) : LeftChannel s (badRecord detail s) :=
  (leaveChannel_left .withdrawn _).of_recordFault

theorem badRecord_permission (detail : Nat) (s : State) :
    (badRecord detail s).controller.permission = s.controller.permission := leaveChannel_permission _ _

theorem checkNumber_left (s : State) : LeftChannel s (checkNumber s) := by
  unfold checkNumber
  split
  · exact (leaveChannel_left .withdrawn _).of_recordFault
  · exact enterListening_left s

theorem checkNumber_permission (s : State) : (checkNumber s).controller.permission = s.controller.permission := by
  unfold checkNumber
  split
  · exact leaveChannel_permission _ _
  · exact enterListening_permission s

theorem stopAccount_faults (s : State) :
    (stopAccount s).faults = s.faults ∨ ∃ d, (stopAccount s).faults = s.faults.add .refreshOverrun d := by
  unfold stopAccount expirePeriod
  dsimp only
  split
  · split
    · exact .inl rfl
    · exact .inr ⟨_, rfl⟩
  · exact .inl rfl

/-- A fault kind stands in a fault record. -/
def FaultStands (k : FaultKind) (f : FaultRecord) : Prop := f.kinds &&& k.bit = k.bit

theorem faultStands_add (k : FaultKind) (d : Byte) (f : FaultRecord) : FaultStands k (f.add k d) := by
  refine BitVec.eq_of_getLsbD_eq fun i _ => ?_
  show ((f.kinds ||| k.bit) &&& k.bit).getLsbD i = k.bit.getLsbD i
  rw [BitVec.getLsbD_and, BitVec.getLsbD_or]
  cases f.kinds.getLsbD i <;> cases k.bit.getLsbD i <;> rfl

theorem FaultStands.add {k j : FaultKind} {f : FaultRecord} (h : FaultStands k f) (d : Byte) : FaultStands k (f.add j d) := by
  refine BitVec.eq_of_getLsbD_eq fun i _ => ?_
  have hi := congrArg (fun x => BitVec.getLsbD x i) h
  simp only [BitVec.getLsbD_and] at hi
  show ((f.kinds ||| j.bit) &&& k.bit).getLsbD i = k.bit.getLsbD i
  rw [BitVec.getLsbD_and, BitVec.getLsbD_or]
  cases hf : f.kinds.getLsbD i <;> simp_all

theorem leaveChannel_faults (st : StationState) (s : State) : (leaveChannel st s).faults = (stopAccount s).faults := by
  simp [leaveChannel]

theorem enterWithdrawn_faults {k : FaultKind} (d : Byte) (s : State) :
    FaultStands k (enterWithdrawn (recordFault k d s)).faults := by
  have hstands : FaultStands k (recordFault k d s).faults := faultStands_add k d s.faults
  rw [enterWithdrawn, leaveChannel_faults]
  rcases stopAccount_faults (recordFault k d s) with h | ⟨e, h⟩
  · rwa [h]
  · rw [h]
    exact hstands.add e

theorem resetPermission_permission {s : State} {v : Bool} (h : initialPermission s.loader = some v) :
    (resetPermission s).controller.permission = some v := by
  unfold resetPermission
  rw [h]
  rfl

theorem recheckRecord_good {s : State} {r : Record} (hr : s.loader.record = some r) (hj : judgeRecord r = none) :
    recheckRecord s =
      if s.lines.presence then enterListening (resetPermission s) else checkNumber (resetPermission s) := by
  have hrecord : (resetPermission s).loader.record = some r := by simpa using hr
  have hpresence : (resetPermission s).lines.presence = s.lines.presence := by simp
  unfold recheckRecord
  dsimp only
  rw [hrecord]
  dsimp only
  rw [hj]
  dsimp only
  rw [hpresence]

theorem recheckRecord_bad {s : State} {r : Record} {d : Nat} (hr : s.loader.record = some r) (hj : judgeRecord r = some d) :
    recheckRecord s = badRecord d (resetPermission s) := by
  have hrecord : (resetPermission s).loader.record = some r := by simpa using hr
  unfold recheckRecord
  dsimp only
  rw [hrecord]
  dsimp only
  rw [hj]

theorem recheckRecord_none {s : State} (hr : s.loader.record = none) :
    recheckRecord s = badRecord 0 (resetPermission s) := by
  have hrecord : (resetPermission s).loader.record = none := by simpa using hr
  unfold recheckRecord
  dsimp only
  rw [hrecord]

/-- The record judged again leads to one of three entries, with the permission at its initial value (R59). -/
theorem recheckRecord_eq (s : State) : (∃ d, recheckRecord s = badRecord d (resetPermission s)) ∨
    recheckRecord s = enterListening (resetPermission s) ∨ recheckRecord s = checkNumber (resetPermission s) := by
  cases hr : s.loader.record with
  | none => exact .inl ⟨0, recheckRecord_none hr⟩
  | some r =>
    cases hj : judgeRecord r with
    | some d => exact .inl ⟨d, recheckRecord_bad hr hj⟩
    | none =>
      rw [recheckRecord_good hr hj]
      split
      · exact .inr (.inl rfl)
      · exact .inr (.inr rfl)

theorem recheckRecord_left (s : State) : LeftChannel s (recheckRecord s) := by
  refine LeftChannel.of_resetPermission ?_
  rcases recheckRecord_eq s with ⟨d, h⟩ | h | h <;> rw [h]
  · exact badRecord_left d _
  · exact enterListening_left _
  · exact checkNumber_left _

theorem recheckRecord_permission (s : State) :
    (recheckRecord s).controller.permission = (resetPermission s).controller.permission := by
  rcases recheckRecord_eq s with ⟨d, h⟩ | h | h <;> rw [h]
  · exact badRecord_permission d _
  · exact enterListening_permission _
  · exact checkNumber_permission _

theorem endDrain_listening {s : State} (h : s.membership.drainTarget = some .listening) :
    endDrain s = recheckRecord s := by
  unfold endDrain
  rw [h]

theorem endDrain_withdrawn {s : State} (h : s.membership.drainTarget = some .withdrawn) :
    endDrain s = leaveChannel .withdrawn s := by
  unfold endDrain
  rw [h]
  rfl

theorem endDrain_left (s : State) : LeftChannel s (endDrain s) := by
  unfold endDrain
  split
  · exact recheckRecord_left s
  · exact leaveChannel_left .withdrawn s
  · exact leaveChannel_left .withdrawn s

/-- Settles O41: every end leaves the channel, and the target and the held record say where to. -/
theorem drainAndLeaveEnd : Obligations.DrainAndLeaveEnd := by
  unfold Obligations.DrainAndLeaveEnd
  constructor
  · intro s hstate hended hempty
    obtain ⟨houter, hqueue, hport, hcounters, hmemory, hmirror, htable, hactive, hdebt, hvote, hroster, htarget⟩ :=
      endDrain_left s
    refine ⟨endDrain s, whenDue_ended hended (drainDue_iff.2 ⟨hstate, hempty⟩), houter, hqueue.trans hempty, hport,
      hcounters, hmemory, hmirror, htable, hactive, hdebt, hvote, hroster, htarget, fun hwithdrawn => ?_, fun hlisten => ?_,
      fun r hlisten hr hj => ?_, fun r d hlisten hr hj => ?_⟩
    · obtain ⟨-, -, hduty, -⟩ := leaveChannel_account .withdrawn s
      rw [endDrain_withdrawn hwithdrawn, leaveChannel_membership]
      exact ⟨rfl, hduty, leaveChannel_permission _ s⟩
    · rw [endDrain_listening hlisten, recheckRecord_permission]
      refine ⟨fun c hc => resetPermission_permission ?_, fun r hnone hr => resetPermission_permission ?_⟩
      · rw [initialPermission, hc]
      · rw [initialPermission, hnone, hr]
        rfl
    · have hcheck : inRoster (resetPermission s).membership.roster (resetPermission s).number =
          inRoster s.membership.roster s.number := by simp
      rw [endDrain_listening hlisten, recheckRecord_good hr hj]
      refine ⟨fun hfree => ?_, fun hpresence hused => ?_⟩
      · have hgoal : (if s.lines.presence then enterListening (resetPermission s) else checkNumber (resetPermission s)) =
            enterListening (resetPermission s) := by
          rcases hfree with hpresence | hroster
          · rw [if_pos hpresence]
          · rw [checkNumber, hcheck, hroster]
            simp
        rw [hgoal, enterListening_membership]
        exact ⟨rfl, rfl⟩
      · rw [if_neg (by simp [hpresence]), checkNumber, hcheck, if_pos hused]
        refine ⟨?_, enterWithdrawn_faults _ _⟩
        rw [enterWithdrawn, leaveChannel_membership]
    · rw [endDrain_listening hlisten, recheckRecord_bad hr hj]
      refine ⟨?_, enterWithdrawn_faults _ _⟩
      rw [badRecord, enterWithdrawn, leaveChannel_membership]
  · intro s hstate hended hempty
    obtain ⟨houter, hqueue, hport, hcounters, hmemory, hmirror, htable, -⟩ := leaveChannel_left .detached s
    exact ⟨enterDetached s, whenDue_ended hended (detachDue_iff.2 ⟨hstate, hempty⟩), houter, hqueue.trans hempty, hport,
      hcounters, hmemory, hmirror, htable, leaveChannel_membership .detached s, leaveChannel_account .detached s⟩

end Sys2Proof.Machine
end

section
/-! PROOFS. The client port's requests, and the end of a slot (O3, O43 to O46). -/

namespace Sys2Proof.Machine

/-! ### Words of the request path (R186) -/

theorem takesWord_iff_portOpen {s : State} : takesWord s = true ↔ PortOpen s := takesWord_iff

/-- A request's step in a slot whose end has begun takes its header, and then the request. -/
theorem portStep_ready {f : State → State} {s : State} (h : PortReady s) : portStep f s = .next (f (wordTaken s)) := by
  obtain ⟨hopen, hended⟩ := h
  unfold portStep
  rw [if_pos (takesWord_iff_portOpen.2 hopen), reachEnd_ended hended]
  rfl

theorem portStep_closed {f : State → State} {s : State} (h : ¬PortOpen s) : portStep f s = .next s := by
  unfold portStep
  rw [if_neg fun htakes => h (takesWord_iff_portOpen.1 htakes)]

theorem takeData_ready {s : State} (word : PortWord) (h : PortReady s) :
    takeData word s = takeWord word (usePosition s) := by
  obtain ⟨hopen, hended⟩ := h
  unfold takeData
  rw [if_pos (takesWord_iff_portOpen.2 hopen), reachEnd_ended hended]

theorem takeData_closed {s : State} (word : PortWord) (h : ¬PortOpen s) : takeData word s = s := by
  unfold takeData
  rw [if_neg fun htakes => h (takesWord_iff_portOpen.1 htakes)]

/-! ### The checks of R90 -/

theorem admitting_iff {st : StationState} : Admitting st ↔ stateRefusal st = none := by
  cases st <;> simp [Admitting, stateRefusal]

theorem tagInUse_iff {s : State} {tag : Tag} : tagInUse s.queue tag = true ↔ tag ∈ queueTags s := by
  simp [tagInUse, queueTags]

theorem commonRefusal_of_admitting {s : State} {tag : Tag} (hstate : Admitting s.membership.state)
    (htag : tag ∉ queueTags s) (hroom : s.queue.length < 16) : commonRefusal s.membership.state s.queue tag = none := by
  have hfree : ¬Config.queueSize ≤ s.queue.length := Nat.not_le.2 hroom
  unfold commonRefusal
  rw [admitting_iff.1 hstate]
  dsimp only
  rw [if_neg fun h => htag (tagInUse_iff.1 h), if_neg hfree]

theorem commonRefusal_of_refusedFirst {s : State} {tag : Tag} {r : RefusalReason} (h : RefusedFirst s tag r) :
    commonRefusal s.membership.state s.queue tag = some r := by
  unfold commonRefusal
  rcases h with ⟨hstate, rfl⟩ | ⟨hstate, rfl⟩ | ⟨hstate, hlate⟩
  · rcases hstate with h | h <;> rw [h] <;> rfl
  · rcases hstate with h | h | h | h <;> rw [h] <;> rfl
  · rw [admitting_iff.1 hstate]
    dsimp only
    rcases hlate with ⟨htag, rfl⟩ | ⟨htag, hfull, rfl⟩
    · rw [if_pos (tagInUse_iff.2 htag)]
    · rw [if_neg fun h => htag (tagInUse_iff.1 h)]
      exact if_pos hfull

theorem isExclusive_iff {kind : MemKind} : kind.isExclusive = true ↔ kind = .exclRead ∨ kind = .exclWrite := by
  cases kind <;> simp [MemKind.isExclusive]

theorem rangeFails_iff {kind : MemKind} {bursts : BurstCount} {address : Address} :
    rangeFails kind bursts address = true ↔ ¬RangeOk kind bursts address := by
  simp only [rangeFails, RangeOk, Bool.or_eq_true, Bool.and_eq_true, decide_eq_true_iff, isExclusive_iff]
  unfold addressColumn
  by_cases h : kind = .exclRead ∨ kind = .exclWrite
  · simp only [h, true_and, true_imp_iff]
    omega
  · simp only [h, false_and, false_imp_iff, or_false, and_true]
    omega

/-- Both rights bits stand where each of them does. -/
theorem and_three_iff {n : Nat} : n &&& 3 = 3 ↔ n &&& 1 = 1 ∧ n &&& 2 = 2 := by
  have hthree : (3 : Nat) = 1 ||| 2 := rfl
  constructor
  · intro h
    have hone : n &&& 1 = n &&& 3 &&& 1 := (Nat.and_assoc n 3 1).symm
    have htwo : n &&& 2 = n &&& 3 &&& 2 := (Nat.and_assoc n 3 2).symm
    rw [hone, htwo, h]
    exact ⟨rfl, rfl⟩
  · rintro ⟨hone, htwo⟩
    rw [hthree, Nat.and_or_distrib_left, hone, htwo]

theorem rights_iff {rights : Nat} {kind : MemKind} : rights &&& rightsFor kind = rightsFor kind ↔
    (kind ≠ .write → rights &&& 1 = 1) ∧ (kind ≠ .read → rights &&& 2 = 2) := by
  cases kind <;> simp [rightsFor, and_three_iff]

theorem accessOk_iff {windows : List Window} {kind : MemKind} {bursts : BurstCount} {address : Address} :
    accessOk windows kind bursts address = true ↔ WindowOk windows kind bursts address := by
  simp only [accessOk, WindowOk, Window.admits, List.any_eq_true, Bool.and_eq_true, decide_eq_true_iff, rights_iff,
    and_assoc]
  rfl

theorem memRefusal_of_accepted {s : State} {kind : MemKind} {tag : Tag} {bursts : BurstCount} {address : Address}
    (h : Accepted s kind tag bursts address) : memRefusal kind tag bursts address s = none := by
  obtain ⟨hstate, htag, hroom, halign, hrange, hwindow⟩ := h
  have haligned : addressOffset address = 0 := halign
  unfold memRefusal addressRefusal
  rw [commonRefusal_of_admitting hstate htag hroom]
  dsimp only
  rw [if_neg (not_not.2 haligned), if_neg fun h => rangeFails_iff.1 h hrange, if_pos (accessOk_iff.2 hwindow)]

theorem memRefusal_of_refused {s : State} {kind : MemKind} {tag : Tag} {bursts : BurstCount} {address : Address}
    {r : RefusalReason} (h : Refused s kind tag bursts address r) : memRefusal kind tag bursts address s = some r := by
  unfold memRefusal
  rcases h with hfirst | ⟨hstate, htag, hroom, hlate⟩
  · rw [commonRefusal_of_refusedFirst hfirst]
  · rw [commonRefusal_of_admitting hstate htag hroom]
    unfold addressRefusal
    dsimp only
    rcases hlate with ⟨halign, rfl⟩ | ⟨halign, hlater⟩
    · exact if_pos halign
    have haligned : addressOffset address = 0 := halign
    rcases hlater with ⟨hrange, rfl⟩ | ⟨hrange, hwindow, rfl⟩
    · rw [if_neg (not_not.2 haligned), if_pos (rangeFails_iff.2 hrange)]
    · rw [if_neg (not_not.2 haligned), if_neg fun h => rangeFails_iff.1 h hrange,
        if_neg fun h => hwindow (accessOk_iff.1 h)]

/-! ### A memory request delivered -/

theorem newEntry_eq {s : State} {kind : MemKind} {tag : Tag} {thread : Thread} {bursts : BurstCount} {urgent : Bool}
    {address : Address} {words : List PortWord} (hwords : kind.isWrite = true ∨ words = []) :
    newEntry s kind tag thread bursts urgent address words =
      acceptedEntry s kind tag thread bursts urgent address words := by
  have hdata : (if kind = .write ∨ kind = .exclWrite then writeBursts words else []) = writeBursts words := by
    rcases hwords with hwrite | rfl
    · rw [if_pos (MemKind.isWrite_iff.1 hwrite)]
    · split <;> rfl
  have hcls : admissionClass s.settings.priorityPermit kind urgent =
      if s.settings.priorityPermit = true ∧ urgent = true ∧ (kind = .read ∨ kind = .write) then .priority
      else .ordinary := by
    cases kind <;> cases urgent <;> cases s.settings.priorityPermit <;> rfl
  rw [newEntry, acceptedEntry, hdata, hcls]
  rfl

section
variable {s : State} {kind : MemKind} {tag : Tag} {bursts : BurstCount} {address : Address}

theorem deliver_accepted (thread : Thread) (urgent : Bool) (words : List PortWord)
    (h : Accepted s kind tag bursts address) :
    deliver kind tag thread bursts urgent address words s =
      joinQueue (newEntry s kind tag thread bursts urgent address words) s := by
  unfold deliver
  rw [memRefusal_of_accepted h]

theorem deliver_refused (thread : Thread) (urgent : Bool) (words : List PortWord) {r : RefusalReason}
    (h : Refused s kind tag bursts address r) :
    deliver kind tag thread bursts urgent address words s = withResponse
      { kind := .refused r, requestKind := memKindCode kind, tag := tag, thread := thread, data := [] } s := by
  unfold deliver
  rw [memRefusal_of_refused h]
  rfl

end

theorem deliverWrite_partial {p : PartialWrite} {s : State} (h : p.words.length < 9 * p.bursts.toNat) :
    deliverWrite p s = s.withPort { s.port with inProgress := some p } := if_pos h

theorem deliverWrite_complete {p : PartialWrite} {s : State} (h : p.words.length = 9 * p.bursts.toNat) :
    deliverWrite p s = deliver p.kind p.tag p.thread p.bursts p.urgent p.address p.words
      (s.withPort { s.port with inProgress := none }) := by
  have hall : p.words.take (writeWords p.bursts) = p.words := List.take_of_length_le h.le
  have hdone : deliverWrite p s = _ := if_neg (not_lt.2 h.ge)
  rw [hdone, hall]
  rfl

theorem takeWord_complete {s : State} {p : PartialWrite} (word : PortWord) (hp : s.port.inProgress = some p)
    (h : p.words.length + 1 = 9 * p.bursts.toNat) :
    takeWord word (usePosition s) =
      deliver p.kind p.tag p.thread p.bursts p.urgent p.address (p.words ++ [word]) (wordTaken s) := by
  have hport : (usePosition s).port.inProgress = some p := hp
  unfold takeWord
  rw [hport]
  exact deliverWrite_complete (p := { p with words := p.words ++ [word] }) (by simpa using h)

/-- A request without data words is delivered with its header. -/
theorem exec_memRequest {kind : MemKind} {tag : Tag} {thread : Thread} {bursts : BurstCount} {urgent : Bool}
    {address : Address} {words : List PortWord} {s : State} (hready : PortReady s)
    (hkind : kind = .read ∨ kind = .exclRead ∨ (bursts = 0 ∧ words = [])) :
    ∃ u, exec (memRequest kind tag thread bursts urgent address words) s =
      .next (deliver kind tag thread bursts u address [] (wordTaken s)) ∧
        (kind = .read → u = urgent) ∧ (kind = .exclRead → u = false) := by
  cases kind with
  | read => exact ⟨urgent, portStep_ready hready, fun _ => rfl, by simp⟩
  | exclRead => exact ⟨false, portStep_ready hready, by simp, fun _ => rfl⟩
  | write =>
    obtain ⟨rfl, rfl⟩ : bursts = 0 ∧ words = [] := by simpa using hkind
    refine ⟨urgent, (portStep_ready hready).trans (congrArg _ ?_), by simp, by simp⟩
    exact deliverWrite_complete (p := ⟨false, tag, thread, 0, urgent, address, []⟩) rfl
  | exclWrite =>
    obtain ⟨rfl, rfl⟩ : bursts = 0 ∧ words = [] := by simpa using hkind
    refine ⟨false, (portStep_ready hready).trans (congrArg _ ?_), by simp, by simp⟩
    exact deliverWrite_complete (p := ⟨true, tag, thread, 0, false, address, []⟩) rfl

/-- Settles O43: the checks in their order by `memRefusal_of_refused`, and a refusal is one response. -/
theorem refusedRequestIsAnswered : Obligations.RefusedRequestIsAnswered := by
  unfold Obligations.RefusedRequestIsAnswered
  refine ⟨?_, ?_, ?_, ?_, ?_⟩
  · intro s kind tag thread bursts urgent address words r hready hkind hrefused
    obtain ⟨u, hexec, -⟩ := exec_memRequest (tag := tag) (thread := thread) (urgent := urgent) (address := address) hready hkind
    rw [hexec, deliver_refused (s := wordTaken s) thread u [] hrefused]
  · intro s p word r hready hp hwords hrefused
    show Host.Outcome.next (takeData word s) = _
    rw [takeData_ready word hready, takeWord_complete word hp hwords,
      deliver_refused (s := wordTaken s) p.thread p.urgent _ hrefused]
  · intro s tag r hready hrefused
    refine (portStep_ready hready).trans (congrArg _ ?_)
    have hcheck : commonRefusal (wordTaken s).membership.state (wordTaken s).queue tag = some r :=
      commonRefusal_of_refusedFirst hrefused
    unfold deliverFence
    rw [hcheck]
    rfl
  · exact fun s kind tag hready => portStep_ready hready
  · intro s kind tag thread bursts urgent address words hclosed
    cases kind with
    | read | exclRead => exact portStep_closed hclosed
    | write => exact portStep_closed (f := fun s => takeWords words (deliverWrite _ s)) hclosed
    | exclWrite => exact portStep_closed (f := fun s => takeWords words (deliverWrite _ s)) hclosed

/-! ### A write request's data words -/

theorem takeWords_append (words : List PortWord) (word : PortWord) (s : State) :
    takeWords (words ++ [word]) s = takeData word
      (beforeOnce (decide (Config.portWidth ≤ (takeWords words s).work.positions)) (takeWords words s)) := by
  induction words generalizing s with
  | nil => rfl
  | cons w rest ih => exact ih _

/-- The station with a number of positions used and a request in progress. -/
def withProgress (positions : Nat) (p : PartialWrite) (s : State) : State :=
  (s.withWork { s.work with positions := positions, ended := true }).withPort { s.port with inProgress := some p }

theorem takeData_partial {s : State} {p : PartialWrite} {n : Nat} (word : PortWord) (htake : s.port.take = true)
    (hn : n < 8) (hlength : p.words.length + 1 < 9 * p.bursts.toNat) :
    takeData word (withProgress n p s) = withProgress (n + 1) { p with words := p.words ++ [word] } s := by
  rw [takeData_ready (s := withProgress n p s) word ⟨⟨htake, hn⟩, rfl⟩]
  exact deliverWrite_partial (p := { p with words := p.words ++ [word] }) (by simpa using hlength)

/-- The words that fit the slot's positions join the request in progress. -/
theorem takeWords_partial {s : State} {words : List PortWord} {p : PartialWrite} {n : Nat} (htake : s.port.take = true)
    (hn : n + words.length ≤ 8) (hlength : p.words.length + words.length < 9 * p.bursts.toNat) :
    takeWords words (withProgress n p s) =
      withProgress (n + words.length) { p with words := p.words ++ words } s := by
  induction words generalizing n p with
  | nil => rw [List.append_nil]; rfl
  | cons w rest ih =>
    rw [List.length_cons] at hn hlength
    have hbefore : beforeOnce (decide (Config.portWidth ≤ n)) (withProgress n p s) = withProgress n p s := by
      have hfree : ¬Config.portWidth ≤ n := by simp only [Config.portWidth]; omega
      simp [beforeOnce, hfree]
    have hfirst : takeWords (w :: rest) (withProgress n p s) =
        takeWords rest (takeData w (beforeOnce (decide (Config.portWidth ≤ n)) (withProgress n p s))) := rfl
    rw [hfirst, hbefore, takeData_partial w htake (by omega) (by omega),
      ih (by omega) (by simp only [List.length_append, List.length_cons, List.length_nil]; omega)]
    simp only [List.length_cons, List.append_assoc, List.singleton_append, Nat.add_assoc, Nat.add_comm 1]

/-- The step of a write request, by its mark of exclusiveness. -/
def writeStep (p : PartialWrite) (words : List PortWord) (s : State) : Outcome :=
  portStep (fun s => takeWords words (deliverWrite p s)) s

theorem writeStep_partial {s : State} {p : PartialWrite} {words : List PortWord} (hp : p.words = [])
    (hready : PortReady s) (hfit : s.work.positions + 1 + words.length ≤ 8) (hlength : words.length < 9 * p.bursts.toNat) :
    writeStep p words s =
      .next (withProgress (s.work.positions + 1 + words.length) { p with words := words } s) := by
  refine (portStep_ready hready).trans (congrArg _ ?_)
  have hstart : deliverWrite p (wordTaken s) = withProgress (s.work.positions + 1) p s :=
    deliverWrite_partial (by rw [hp, List.length_nil]; omega)
  obtain ⟨⟨htake, -⟩, -⟩ := hready
  show takeWords words (deliverWrite p (wordTaken s)) = _
  rw [hstart, takeWords_partial htake hfit (by simpa [hp] using hlength), hp, List.nil_append]

theorem writeStep_snoc {s : State} {p : PartialWrite} (words : List PortWord) (word : PortWord) (h : PortOpen s) :
    ∃ u, writeStep p words s = .next u ∧ writeStep p (words ++ [word]) s =
      exec (.strayWordDiscard word) (if 8 ≤ u.work.positions then endSlot u else u) := by
  have htakes : takesWord s = true := takesWord_iff_portOpen.2 h
  let v := deliverWrite p (takeHeader (reachEnd s))
  refine ⟨takeWords words v, if_pos htakes, ?_⟩
  have hstep : writeStep p (words ++ [word]) s = .next (takeWords (words ++ [word]) v) := if_pos htakes
  have hslot : beforeOnce (decide (8 ≤ (takeWords words v).work.positions)) (takeWords words v) =
      if 8 ≤ (takeWords words v).work.positions then endSlot (takeWords words v) else takeWords words v := by
    simp [beforeOnce]
  rw [hstep, takeWords_append]
  exact congrArg (fun u => Host.Outcome.next (takeData word u)) hslot

/-- Settles O44: the words one by one, each a position, with the turn of the slot where the positions are used up. -/
theorem dataWordsCompleteRequest : Obligations.DataWordsCompleteRequest := by
  unfold Obligations.DataWordsCompleteRequest
  refine ⟨?_, ?_, ?_, ?_, ?_⟩
  · intro s tag thread bursts urgent address words hready hfit hlength
    have hended : s.work.ended = true := hready.2
    have hwork (n : Nat) : { s.work with positions := n, ended := true } = { s.work with positions := n } := by
      rw [← hended]
    have hwrite := writeStep_partial (p := ⟨false, tag, thread, bursts, urgent, address, []⟩) rfl hready hfit hlength
    have hexcl := writeStep_partial (p := ⟨true, tag, thread, bursts, false, address, []⟩) rfl hready hfit hlength
    rw [withProgress, hwork] at hwrite hexcl
    exact ⟨hwrite, hexcl⟩
  · exact fun s tag thread bursts urgent address words word hopen =>
      ⟨writeStep_snoc words word hopen, writeStep_snoc words word hopen⟩
  · exact fun s word hclosed => congrArg Host.Outcome.next (takeData_closed word hclosed)
  · intro s word hready hp
    have hended : s.work.ended = true := hready.2
    have hport : (usePosition s).port.inProgress = none := hp
    refine congrArg Host.Outcome.next ?_
    show takeData word s = _
    rw [takeData_ready word hready, takeWord, hport]
    show s.withWork { s.work with positions := s.work.positions + 1, ended := true } = _
    rw [← hended]
  · intro s word p hready hp hlength
    have hport : (usePosition s).port.inProgress = some p := hp
    refine congrArg Host.Outcome.next ?_
    show takeData word s = _
    rw [takeData_ready word hready, takeWord, hport]
    exact deliverWrite_partial (p := { p with words := p.words ++ [word] }) (by simpa using hlength)

/-! ### Station requests -/

theorem answerOk_port (kind : BitVec 4) (tag : Tag) (s : State) : (answerOk kind tag s).port =
    { s.port with
      joining := s.port.joining ++
        [.made { kind := .retired .ok, requestKind := kind, tag := tag, thread := 0, data := [] }] } := rfl

/-- Settles O45: the request by the station state, and the vote by its three conditions. -/
theorem quietPermitSetsPermission : Obligations.QuietPermitSetsPermission := by
  unfold Obligations.QuietPermitSetsPermission
  intro s tag value hready
  have hexec : exec (.quietPermit tag value) s = .next (takePermit tag value (wordTaken s)) := portStep_ready hready
  refine ⟨fun hstate => ?_, fun hstate => ?_⟩
  · have hloading : (wordTaken s).membership.state = .loading := hstate
    rw [hexec, takePermit, hloading]
    rfl
  · have htaken : takePermit tag value (wordTaken s) = answerOk 5 tag
        (recastVote ((wordTaken s).withController { (wordTaken s).controller with permission := some value })) := by
      unfold takePermit
      split
      · next h => exact absurd h hstate
      · rfl
    have hvote : voteStands ((wordTaken s).withController { (wordTaken s).controller with permission := some value }) =
        (decide (s.membership.state = .member) && value && s.queue.isEmpty &&
          decide (s.settings.idleWait ≤ s.controller.idleCount)) := by
      show (decide (s.membership.state = .member) && decide (some value = some true) && s.queue.isEmpty &&
        decide (s.settings.idleWait ≤ s.controller.idleCount)) = _
      cases value <;> simp
    rw [hexec, htaken, recastVote, hvote]
    rfl

/-- Settles O46: each request by the one state that takes it. -/
theorem leaveAndJoinChangeState : Obligations.LeaveAndJoinChangeState := by
  unfold Obligations.LeaveAndJoinChangeState
  intro s tag hready
  have hleave : exec (.leave tag) s = .next (takeLeave tag (wordTaken s)) := portStep_ready hready
  have hjoin : exec (.join tag) s = .next (takeJoin tag (wordTaken s)) := portStep_ready hready
  refine ⟨fun hstate => ?_, fun hstate => ?_, fun hstate => ?_, fun hstate => ?_⟩
  · have hmember : (wordTaken s).membership.state = .member := hstate
    rw [hleave, takeLeave, hmember]
    rfl
  · have hrefused : takeLeave tag (wordTaken s) = refuseWith .badState 6 tag 0 (wordTaken s) := by
      unfold takeLeave
      split
      · next h => exact absurd h hstate
      · rfl
    rw [hleave, hrefused]
    rfl
  · have hrefused : takeJoin tag (wordTaken s) = refuseWith .badState 7 tag 0 (wordTaken s) := by
      unfold takeJoin
      split
      · next h => exact absurd h hstate
      · rfl
    rw [hjoin, hrefused]
    rfl
  · have htaken : takeJoin tag (wordTaken s) = answerOk 7 tag (checkNumber (wordTaken s)) := by
      have hdetached : (wordTaken s).membership.state = .detached := hstate
      rw [takeJoin, hdetached]
    obtain ⟨houter, hqueue, hport, hcounters, hmemory, hmirror, -, -, -, -, hroster, -⟩ := checkNumber_left (wordTaken s)
    rw [hjoin, htaken]
    refine ⟨_, rfl, houter, hqueue, hcounters, hmemory, hroster, ?_, ?_, fun hfree => ?_, fun hused => ?_⟩
    · show (checkNumber (wordTaken s)).mirror.known = none
      rw [hmirror]
    · rw [answerOk_port, hport]
      rfl
    · have hlisten : checkNumber (wordTaken s) = enterListening (wordTaken s) := if_neg (by simpa [wordTaken] using hfree)
      show (checkNumber (wordTaken s)).membership.state = _ ∧ (checkNumber (wordTaken s)).membership.silence = _
      rw [hlisten, enterListening_membership]
      exact ⟨rfl, rfl⟩
    · have hwithdrawn : checkNumber (wordTaken s) = enterWithdrawn
          (recordFault .duplicateNumber (stationDetail (wordTaken s).number) (wordTaken s)) :=
        if_pos (by simpa [wordTaken] using hused)
      show (checkNumber (wordTaken s)).membership.state = _ ∧ FaultStands _ (checkNumber (wordTaken s)).faults
      rw [hwithdrawn]
      refine ⟨?_, enterWithdrawn_faults _ _⟩
      rw [enterWithdrawn, leaveChannel_membership]

/-! ### The end of a slot (R1, R8, R9, R187 to R192) -/

/-- What the moves of a slot leave of the lines that the station drives and of the response path. -/
def DrivesKept (s t : State) : Prop :=
  t.slot = s.slot ∧ t.lines.presence = s.lines.presence ∧ t.port.responses = s.port.responses ∧ t.port.sent = s.port.sent

theorem Move.drivesKept {s t : State} (h : Move s t) : DrivesKept s t := by
  cases h with
  | resync | leaveDoubt | doubt | learn | resume | trust | leaving => simp [DrivesKept, setState]
  | quiet => exact ⟨rfl, rfl, rfl, rfl⟩
  | _ => exact ⟨rfl, rfl, rfl, rfl⟩

theorem Moves.drivesKept {s t : State} (h : Moves s t) : DrivesKept s t := by
  induction h with
  | refl => exact ⟨rfl, rfl, rfl, rfl⟩
  | tail _ hmove ih =>
    obtain ⟨hslot, hpresence, hresponses, hsent⟩ := ih
    obtain ⟨hslot', hpresence', hresponses', hsent'⟩ := hmove.drivesKept
    exact ⟨hslot'.trans hslot, hpresence'.trans hpresence, hresponses'.trans hresponses, hsent'.trans hsent⟩

/-- The next slot, from what the events of the slot have left: the responses joined, the memory moved on, the drives set. -/
def opened (u : State) (m : ChannelMemory) : State := openSlot ((joinResponses u).withMemory m)

/-- What the opening of the next slot makes of each block. -/
theorem opened_blocks (u : State) (m : ChannelMemory) :
    (opened u m).membership = u.membership ∧ (opened u m).mirror = u.mirror ∧ (opened u m).table = u.table ∧
      (opened u m).controller = u.controller ∧ (opened u m).counters = u.counters ∧
      (opened u m).queue = u.queue.map Entry.nextSlot ∧ (opened u m).memory = m ∧ (opened u m).lines = nextDrives u ∧
      (opened u m).faults = { u.faults with attention := nextAttention u.faults } ∧
      (opened u m).dataUnit = { u.dataUnit with driving := none } ∧ (opened u m).work = SlotWork.fresh ∧
      (opened u m).slot = u.slot + 1 ∧ (opened u m).number = u.number ∧
      (opened u m).port =
        { u.port with
          responses := u.port.responses ++ u.port.joining.map (joinedResponse u), joining := [],
          take := nextTake ((joinResponses u).withMemory m), responsePath := [] } :=
  ⟨by simp [opened], by simp [opened], by simp [opened], by simp [opened], by simp [opened], by simp [opened],
    by simp [opened], by simp [opened, nextDrives], by simp [opened], by simp [opened], by simp [opened], by simp [opened],
    by simp [opened, openSlot, State.number], by simp [opened]⟩

/-- The report is made of the fields that the slot leaves, which the next slot finds. -/
theorem reportRecord_opened (u : State) (m : ChannelMemory) : reportRecord (opened u m) = reportRecord u := by
  obtain ⟨hmembership, hmirror, htable, hcontroller, hcounters, hqueue, -, hlines, hfaults, -, -, -, hnumber, -⟩ :=
    opened_blocks u m
  unfold reportRecord reportWord0
  rw [hmembership, hmirror, htable, hcontroller, hcounters, hqueue, hlines, hfaults, hnumber, List.length_map]
  rfl

theorem joinedResponse_opened (u : State) (m : ChannelMemory) : joinedResponse (opened u m) = joinedResponse u := by
  funext j
  cases j with
  | made r | retired o r => simp only [joinedResponse]
  | report tag => simp only [joinedResponse, reportResponse, reportRecord_opened]

/-- The memory that the end of a slot moves on, as the slot's own events leave it. -/
def settledMemory (s : State) : ChannelMemory := (finishSlot s).memory.endSlot (drivenSlot (finishSlot s))

theorem nextTake_opened (u : State) (m : ChannelMemory) :
    (opened u m).port.take =
      (decide ((opened u m).membership.state ≠ .off) && decide ((opened u m).port.responses.length ≤ 40)) := by
  obtain ⟨hmembership, -, -, -, -, -, -, -, -, -, -, -, -, hport⟩ := opened_blocks u m
  rw [hmembership, hport]
  simp only [nextTake, Config.takeLimit, joinResponses_port, State.withMemory_port, State.withMemory_membership,
    joinResponses_frame]
  rfl

theorem endSlot_eq {s : State} (h : s.membership.state ≠ .off) : endSlot s = opened (settleSlot s) (settledMemory s) :=
  endSlot_of_ne_off h

/-- The responses of a slot join the list in order, each made of the fields that the slot leaves. -/
theorem endSlot_responses {s : State} (h : s.membership.state ≠ .off) : (endSlot s).port.responses =
    s.port.responses ++ (settleSlot s).port.joining.map (joinedResponse (endSlot s)) := by
  obtain ⟨-, -, hresponses, -⟩ := (settleSlot_moves s).drivesKept
  rw [endSlot_eq h, joinedResponse_opened, ← hresponses]
  rfl

theorem step_empty {s : State} (h : s.pending = []) : step s = .next (endSlot s) := by
  unfold step
  rw [h]

theorem observe_memory (o : Observed) (s : State) : (observe o s).memory = (giveMemory o s).memory := by
  unfold observe
  dsimp only
  split <;> simp

theorem ChannelMemory.take_now (own : StationNo → Bool) (o : Observed) (m : ChannelMemory) :
    (m.take own o).now = m.now := by
  unfold ChannelMemory.take
  split
  · rfl
  · rfl
  · split
    · unfold ChannelMemory.effect
      (repeat' split) <;> rfl
    · rfl

theorem settleSlot_now (s : State) : (settleSlot s).memory.now = s.memory.now := by
  have hobserve (u : State) : (defaultObserve u).memory.now = u.memory.now := by
    unfold defaultObserve
    split
    · rfl
    · rw [observe_memory]
      exact ChannelMemory.take_now _ _ _
  simp [settleSlot, hobserve]

theorem endSlot_memory_now (m : ChannelMemory) (d : Option DataSlot) : (m.endSlot d).now = m.now + 1 := by
  have hstore (m : ChannelMemory) (g : Nat) (d : DataSlot) : (m.store g d).now = m.now := by
    unfold ChannelMemory.store
    split <;> rfl
  have hend (m : ChannelMemory) (last : Bool) : (m.endWrite last).now = m.now := by
    unfold ChannelMemory.endWrite
    split <;> rfl
  have hreceive (o : OwnedSlot) : (m.receive d o).now = m.now := by
    unfold ChannelMemory.receive
    dsimp only
    rw [hend]
    split
    · rfl
    · split
      · rfl
      · exact hstore _ _ _
  have hage (m : ChannelMemory) : m.ageRetention.now = m.now := by
    unfold ChannelMemory.ageRetention
    (repeat' split) <;> rfl
  have hfix (m : ChannelMemory) : m.fixReads.now = m.now := rfl
  unfold ChannelMemory.endSlot
  show ChannelMemory.now _ + 1 = m.now + 1
  rw [hage, hfix]
  (repeat' split) <;> simp [hreceive]

theorem drivenAlerts_openSlot (m : ChannelMemory) : m.openSlot.alertLine =
    { writeCheck := m.openSlot.alertEnable && m.openSlot.writeAlerts.contains m.openSlot.now
      commandError := m.openSlot.alertEnable && m.openSlot.commandAlerts.contains m.openSlot.now } := by
  have hkept (l : List Nat) : (l.filter fun a => decide (m.now ≤ a)).contains m.now = l.contains m.now := by
    rw [Bool.eq_iff_iff]
    simp
  simp only [ChannelMemory.openSlot, ChannelMemory.drivenAlerts, hkept]

/-- Settles O3: the drives, the lines and the responses as `opened` makes them of what the slot's events have left. -/
theorem emptyQueueEndsSlot : Obligations.EmptyQueueEndsSlot := by
  unfold Obligations.EmptyQueueEndsSlot
  intro s hpending hstate
  obtain ⟨hslot, hpresence, -, -⟩ := (settleSlot_moves s).drivesKept
  have hresponses := endSlot_responses hstate
  have hnow : (settledMemory s).now = s.memory.now + 1 := by
    have hfinish : (finishSlot s).memory = (settleSlot s).memory := by simp [finishSlot]
    rw [settledMemory, endSlot_memory_now, hfinish, settleSlot_now]
  obtain ⟨hmembership, -, -, hcontroller, -, hqueue, hmemory, hlines, hfaults, hunit, hwork, hcount, -, hport⟩ :=
    opened_blocks (settleSlot s) (settledMemory s)
  have htake := nextTake_opened (settleSlot s) (settledMemory s)
  rw [← endSlot_eq hstate] at hmembership hcontroller hqueue hmemory hlines hfaults hunit hwork hcount hport htake
  refine ⟨endSlot s, step_empty hpending, by simp [hpending], by rw [hcount, hslot], by rw [hmemory, hnow], ?_, hwork,
    by rw [hunit], by rw [hport], by rw [hport], hresponses, (settleSlot_moves s).joining_sublist, ?_,
    by rw [hfaults, nextAttention], htake, fun h => ?_, fun h => ?_, fun h => ?_, ?_, ?_⟩
  · rw [hmemory, settledMemory]
    exact drivenAlerts_openSlot _
  · intro e he m hm
    rw [hqueue] at he
    obtain ⟨x, -, rfl⟩ := List.mem_map.1 he
    obtain ⟨k, -, rfl⟩ := Option.map_eq_some_iff.1 hm
    rfl
  · rw [hmembership] at h
    rw [hlines]
    simp only [List.mem_cons, List.not_mem_nil, or_false] at h
    rcases h with h | h | h | h | h <;> simp [nextDrives, presenceDrive, h]
  · rw [hmembership] at h
    rw [hlines]
    simp only [List.mem_cons, List.not_mem_nil, or_false] at h
    rcases h with h | h | h <;> simp [nextDrives, presenceDrive, h]
  · rw [hmembership] at h
    rw [hlines, ← hpresence]
    simp [nextDrives, presenceDrive, h]
  · rw [hlines, hmembership]
    cases h : (settleSlot s).membership.state <;> simp [nextDrives, readyDrive, h]
  · rw [hlines, hmembership, hcontroller]
    cases h : (settleSlot s).membership.state <;> simp [nextDrives, quietRelease, h]


end Sys2Proof.Machine
end

section

/-! PROOFS. Reports and responses (O48, O49). -/

namespace Sys2Proof.Machine

/-! ### Reports and responses (R187 to R190, R196, R197) -/

/-- The fields of the first report word, each at its place. -/
theorem reportWord0_fields (s : State) :
    (reportWord0 s).extractLsb' 60 4 = stateCode s.membership.state ∧
      (reportWord0 s).extractLsb' 58 2 = channelCode s.mirror.known ∧ (reportWord0 s).extractLsb' 55 3 = s.number ∧
      (reportWord0 s).extractLsb' 47 8 = s.membership.roster ∧
      (reportWord0 s).extractLsb' 43 4 = dutyCode s.controller.duty ∧
      (reportWord0 s).extractLsb' 40 3 = BitVec.ofNat 3 s.controller.debt ∧
      (reportWord0 s).extractLsb' 35 5 = BitVec.ofNat 5 s.queue.length ∧
      (reportWord0 s).extractLsb' 32 3 = BitVec.ofNat 3 s.table.reservations.length ∧
      (reportWord0 s).extractLsb' 0 26 = 0 := by
  unfold reportWord0
  simp (disch := decide) only [BitVec.extractLsb'_cast, BitVec.extractLsb'_append_eq_of_le,
    BitVec.extractLsb'_append_eq_of_add_le, BitVec.extractLsb'_eq_self, Nat.reduceSub, -Nat.reduceAdd, true_and]
  rfl

theorem getLsbD_of_extractLsb' {w i : Nat} {x : BitVec w} {b : Bool} (h : x.extractLsb' i 1 = BitVec.ofBool b) :
    x.getLsbD i = b := by
  have hbit : (x.extractLsb' i 1).getLsbD 0 = x.getLsbD i := by simp
  rw [← hbit, h]
  cases b <;> rfl

/-- The single bits of the first report word. -/
theorem reportWord0_bits (s : State) :
    (reportWord0 s).extractLsb' 31 1 = BitVec.ofBool s.controller.vote ∧
      (reportWord0 s).extractLsb' 30 1 = BitVec.ofBool (decide (s.controller.permission = some true)) ∧
      (reportWord0 s).extractLsb' 29 1 = BitVec.ofBool s.membership.leaveDoubt ∧
      (reportWord0 s).extractLsb' 28 1 = BitVec.ofBool (decide (s.membership.drainTarget = some .withdrawn)) ∧
      (reportWord0 s).extractLsb' 27 1 = BitVec.ofBool s.lines.readySample ∧
      (reportWord0 s).extractLsb' 26 1 = BitVec.ofBool s.lines.quietSample := by
  unfold reportWord0
  simp (disch := decide) only [BitVec.extractLsb'_cast, BitVec.extractLsb'_append_eq_of_le,
    BitVec.extractLsb'_append_eq_of_add_le, BitVec.extractLsb'_eq_self, Nat.reduceSub, -Nat.reduceAdd, true_and]

theorem reportWord1_fields (f : FaultRecord) :
    (reportWord1 f).extractLsb' 42 10 = f.kinds ∧ (reportWord1 f).extractLsb' 0 42 = 0 := by
  unfold reportWord1
  simp (disch := decide) only [BitVec.extractLsb'_cast, BitVec.extractLsb'_append_eq_of_le,
    BitVec.extractLsb'_append_eq_of_add_le, BitVec.extractLsb'_eq_self, Nat.reduceSub, -Nat.reduceAdd, true_and]
  rfl

theorem reportWord1_empty {f : FaultRecord} (h : f.first = none) : (reportWord1 f).extractLsb' 52 12 = 0 := by
  unfold reportWord1
  rw [h]
  simp (disch := decide) only [BitVec.extractLsb'_cast, BitVec.extractLsb'_append_eq_of_le,
    BitVec.extractLsb'_eq_self, Nat.reduceSub, -Nat.reduceAdd]
  rfl

theorem reportWord1_first {f : FaultRecord} {k : FaultKind} {d : BitVec 8} (h : f.first = some (k, d)) :
    (reportWord1 f).extractLsb' 60 4 = BitVec.ofNat 4 k.code ∧ (reportWord1 f).extractLsb' 52 8 = d := by
  unfold reportWord1
  rw [h]
  simp (disch := decide) only [BitVec.extractLsb'_cast, BitVec.extractLsb'_append_eq_of_le,
    BitVec.extractLsb'_append_eq_of_add_le, BitVec.extractLsb'_eq_self, Nat.reduceSub, -Nat.reduceAdd, and_self]

theorem counterWord_fields (high low : Counter) :
    (counterWord high low).extractLsb' 32 32 = high ∧ (counterWord high low).extractLsb' 0 32 = low := by
  unfold counterWord
  simp (disch := decide) only [BitVec.extractLsb'_cast, BitVec.extractLsb'_append_eq_of_le,
    BitVec.extractLsb'_append_eq_of_add_le, BitVec.extractLsb'_eq_self, Nat.reduceSub, -Nat.reduceAdd, and_self]

theorem responseHeader_fields (r : Response) :
    (responseHeader r).extractLsb' 61 3 = responseCode r.kind ∧ (responseHeader r).extractLsb' 58 3 = reasonCode r.kind ∧
      (responseHeader r).extractLsb' 54 4 = r.requestKind ∧ (responseHeader r).extractLsb' 49 5 = r.tag ∧
      (responseHeader r).extractLsb' 45 4 = r.thread ∧
      (responseHeader r).extractLsb' 39 6 = BitVec.ofNat 6 r.data.length ∧ (responseHeader r).extractLsb' 0 39 = 0 := by
  unfold responseHeader
  simp (disch := decide) only [BitVec.extractLsb'_cast, BitVec.extractLsb'_append_eq_of_le,
    BitVec.extractLsb'_append_eq_of_add_le, BitVec.extractLsb'_eq_self, Nat.reduceSub, -Nat.reduceAdd, true_and]
  rfl

/-- Settles O48: the report's response by `joinedResponse_opened`, and its words field by field. -/
theorem reportAndClear : Obligations.ReportAndClear := by
  unfold Obligations.ReportAndClear
  refine ⟨fun s tag hready => portStep_ready (f := fun s => s.withPort { s.port with joining := s.port.joining ++ [.report tag] })
      hready, fun s tag hpending hstate hmem => ?_, fun s => ?_,
    fun s tag hready => portStep_ready (f := fun s => answerOk 10 tag (s.withFaults s.faults.cleared)) hready⟩
  · have hjoined := (settleSlot_moves s).joining_sublist.subset hmem
    obtain ⟨before, after, hsplit⟩ := List.append_of_mem hjoined
    refine ⟨endSlot s, s.port.responses ++ before.map (joinedResponse (endSlot s)),
      after.map (joinedResponse (endSlot s)), step_empty hpending, ?_, by simp⟩
    rw [endSlot_responses hstate, hsplit, List.map_append, List.map_cons, List.append_assoc]
    rfl
  · obtain ⟨hstate, hchannel, hnumber, hroster, hduty, hdebt, hqueue, htable, hzero⟩ := reportWord0_fields s
    obtain ⟨hvote, hpermission, hdoubt, htarget, hready, hquiet⟩ := reportWord0_bits s
    obtain ⟨hkinds, hfree⟩ := reportWord1_fields s.faults
    obtain ⟨hwon, hlost⟩ := counterWord_fields s.counters.claimsWon s.counters.claimsLost
    obtain ⟨hcompleted, hfailures⟩ := counterWord_fields s.counters.requestsCompleted s.counters.exclusiveFailures
    obtain ⟨hread, hwrite⟩ := counterWord_fields s.counters.readRetries s.counters.writeRetries
    obtain ⟨hresyncs, hrefreshes⟩ := counterWord_fields s.counters.resyncs s.counters.refreshesIssued
    refine ⟨_, _, _, _, _, _, rfl, ?_, ?_, hnumber, hroster, ?_, hdebt, hqueue, htable, getLsbD_of_extractLsb' hvote, ?_,
      getLsbD_of_extractLsb' hdoubt, ?_, getLsbD_of_extractLsb' hready, getLsbD_of_extractLsb' hquiet, hzero, reportWord1_empty, fun k d hsome => ?_, hkinds, hfree, hwon, hlost, hcompleted, hfailures, hread, hwrite,
      hresyncs, hrefreshes⟩
    · rw [hstate]
      cases s.membership.state <;> rfl
    · rw [hchannel]
      cases hknown : s.mirror.known with
      | none => rfl
      | some m => cases hm : m.channel <;> simp [channelCode, hm]
    · rw [hduty]
      cases s.controller.duty <;> rfl
    · rw [getLsbD_of_extractLsb' hpermission, decide_eq_true_iff]
    · rw [getLsbD_of_extractLsb' htarget, decide_eq_true_iff]
    · obtain ⟨hcode, hdetail⟩ := reportWord1_first hsome
      refine ⟨hcode.trans ?_, hdetail⟩
      cases k <;> rfl

/-- Settles O49: the words left of the oldest response, at most eight of them a slot. -/
theorem responseSendDrainsOldest : Obligations.ResponseSendDrainsOldest := by
  unfold Obligations.ResponseSendDrainsOldest
  refine ⟨fun s hfresh => ?_, fun r => ?_, ⟨rfl, rfl, rfl, rfl⟩, joinRetired_spec⟩
  · have hsame : beforeOnce s.work.responded s = s := by simp [beforeOnce, hfresh]
    have hexec : exec .responseSend s = .next (sendWords s) := congrArg (fun u => Host.Outcome.next (sendWords u)) hsame
    rw [hexec]
    refine ⟨fun hnone => ?_, fun r rest hr => ?_⟩
    · have hempty : (s.withWork { s.work with responded := true }).port.responses = [] := hnone
      unfold sendWords
      dsimp only
      rw [hempty]
    · have hfirst : (s.withWork { s.work with responded := true }).port.responses = r :: rest := hr
      have hlength : ((responseWords r).drop s.port.sent).length = r.data.length + 1 - s.port.sent := by
        simp [responseWords]
      unfold sendWords
      dsimp only
      rw [hfirst]
      refine ⟨fun hlast => ?_, fun hmore => ?_⟩
      · have hfits : ((responseWords r).drop s.port.sent).length ≤ 8 := by omega
        have hpath : ((responseWords r).drop s.port.sent).take 8 = (responseWords r).drop s.port.sent :=
          List.take_of_length_le hfits
        refine congrArg Host.Outcome.next ((if_pos hfits).trans ?_)
        exact congrArg (fun path => (s.withWork { s.work with responded := true }).withPort
          { s.port with responsePath := path, responses := rest, sent := 0 }) hpath
      · have hlong : ¬((responseWords r).drop s.port.sent).length ≤ 8 := by omega
        refine congrArg Host.Outcome.next ((if_neg hlong).trans ?_)
        exact congrArg (fun list => (s.withWork { s.work with responded := true }).withPort
          { s.port with responsePath := ((responseWords r).drop s.port.sent).take 8, responses := list,
                        sent := s.port.sent + 8 }) hr.symm
  · obtain ⟨hresponse, hreason, hkind, htag, hthread, hlength, hzero⟩ := responseHeader_fields r
    refine ⟨responseHeader r, rfl, ?_, ?_, hkind, htag, hthread, hlength, hzero⟩
    · rw [hresponse]
      rcases r.kind with (_ | _ | _ | _ | _) | _ <;> rfl
    · rw [hreason]
      rcases r.kind with _ | (_ | _ | _ | _ | _ | _ | _ | _) <;> rfl

end Sys2Proof.Machine
end

section
/-! PROOFS. What entry to DRAINING does to the queue, its responses and its counts, and RESTART (O47). -/

namespace Sys2Proof.Machine

/-! ### The walk of a retirement -/

/-- What remains after a retirement stood before it, unanswered. -/
theorem retireWalk_remaining {slot : Nat} {closing older : Bool} {q : List Entry} {e : Entry}
    (h : e ∈ (retireWalk slot closing older q).1) : e ∈ q ∧ e.phase.answered = none := by
  induction q generalizing older with
  | nil => simp [retireWalk] at h
  | cons x rest ih =>
    unfold retireWalk at h
    split at h
    · obtain ⟨hmem, hphase⟩ := ih h
      exact ⟨List.mem_cons_of_mem x hmem, hphase⟩
    · next hnone =>
      rcases List.mem_cons.1 h with rfl | hrest
      · refine ⟨List.mem_cons_self, ?_⟩
        unfold retiresWith at hnone
        split at hnone
        · simp at hnone
        · assumption
      · obtain ⟨hmem, hphase⟩ := ih hrest
        exact ⟨List.mem_cons_of_mem x hmem, hphase⟩

/-- A queue of answered entries retires whole. -/
theorem retireWalk_answered {slot : Nat} {closing older : Bool} {q : List Entry} {o : EntryOutcome}
    (h : ∀ e ∈ q, e.phase = .done o) : retireWalk slot closing older q = ([], q.map fun e => (e, o)) := by
  induction q with
  | nil => rfl
  | cons x rest ih =>
    obtain ⟨hx, hrest⟩ := List.forall_mem_cons.1 h
    have hretires : retiresWith slot closing older x = some o := by simp [retiresWith, hx, Phase.answered]
    simp [retireWalk, hretires, ih hrest]

theorem restartIdle_kept (s : State) :
    (restartIdle s).queue = s.queue ∧ (restartIdle s).port = s.port ∧ (restartIdle s).counters = s.counters := by
  unfold restartIdle
  split <;> simp

/-- A retirement in the terms of its walk. -/
theorem retireDone_walk (closing : Bool) (s : State) :
    (retireDone closing s).queue = (retireWalk s.slot closing false s.queue).1 ∧
      (retireDone closing s).port.joining = joinAll (retireWalk s.slot closing false s.queue).2 s.port.joining ∧
      (retireDone closing s).counters.requestsCompleted =
        s.counters.requestsCompleted + BitVec.ofNat 32 (retireWalk s.slot closing false s.queue).2.length := by
  have hlength := retireWalk_length s.slot closing false s.queue
  have hsub := retireWalk_sublist s.slot closing false s.queue
  unfold retireDone
  dsimp only
  split
  · next hnone =>
    rw [List.isEmpty_iff] at hnone
    rw [hnone] at hlength ⊢
    exact ⟨(hsub.eq_of_length (by simpa using hlength)).symm, rfl, by simp⟩
  · obtain ⟨hqueue, hport, hcounters⟩ := restartIdle_kept (((s.withQueue (retireWalk s.slot closing false s.queue).1).withPort
      { s.port with joining := joinAll (retireWalk s.slot closing false s.queue).2 s.port.joining }).withCounters
      { s.counters with requestsCompleted :=
          s.counters.requestsCompleted + BitVec.ofNat 32 (retireWalk s.slot closing false s.queue).2.length })
    rw [hqueue, hport, hcounters]
    simp

theorem retireDone_remaining {closing : Bool} {s : State} {e : Entry} (h : e ∈ (retireDone closing s).queue) :
    e ∈ s.queue ∧ e.phase.answered = none := by
  obtain ⟨hqueue, -, -⟩ := retireDone_walk closing s
  rw [hqueue] at h
  exact retireWalk_remaining h

/-! ### The unissued entries answered -/

theorem mem_answerEntry {tag : Tag} {o : EntryOutcome} {s : State} {x : Entry} (h : x ∈ (answerEntry tag o s).queue) :
    x.phase.answered.isSome = true ∨ (x ∈ s.queue ∧ x.tag ≠ tag) := by
  obtain ⟨e, he, rfl⟩ := List.mem_map.1 h
  split
  · exact .inl rfl
  · exact .inr ⟨he, ‹_›⟩

theorem mem_drainEntry {e : Entry} {s : State} {x : Entry} (h : x ∈ (drainEntry e s).queue) :
    x.phase.answered.isSome = true ∨ (x ∈ s.queue ∧ x.tag ≠ e.tag) := by
  unfold drainEntry at h
  split at h
  · exact mem_answerEntry (s := s) (o := .dataError) (by simpa [uncountReadRetry, answerEntry, changeEntry] using h)
  · exact mem_answerEntry h

/-- After the unissued entries are answered, an entry is answered or stood unchanged and is none of them. -/
theorem mem_drainFold {es : List Entry} {s : State} {x : Entry} (h : x ∈ (es.foldl (fun s e => drainEntry e s) s).queue) :
    x.phase.answered.isSome = true ∨ (x ∈ s.queue ∧ ∀ e ∈ es, x.tag ≠ e.tag) := by
  induction es generalizing s with
  | nil => exact .inr ⟨h, by simp⟩
  | cons e rest ih =>
    obtain hdone | ⟨hmem, hrest⟩ := ih h
    · exact .inl hdone
    · obtain hdone | ⟨hold, htag⟩ := mem_drainEntry hmem
      · exact .inl hdone
      · exact .inr ⟨hold, List.forall_mem_cons.2 ⟨htag, hrest⟩⟩

theorem mem_drainEntries {s : State} {x : Entry} (h : x ∈ (drainEntries s).queue) (hopen : x.phase.answered = none) :
    x ∈ s.queue ∧ (x.phase = .readIssued ∨ x.phase = .writeIssued) := by
  obtain hdone | ⟨hmem, hnot⟩ := mem_drainFold h
  · simp [hopen] at hdone
  · refine ⟨hmem, ?_⟩
    have howing : x.phase.owing = false := by
      by_contra hcon
      exact hnot x (List.mem_filter.2 ⟨hmem, by simpa using hcon⟩) rfl
    cases hphase : x.phase <;> simp_all [Phase.owing, Phase.answered]

/-- The counts that a drain leaves alone. -/
def DrainCounted (s t : State) : Prop :=
  t.counters = { s.counters with requestsCompleted := t.counters.requestsCompleted, readRetries := t.counters.readRetries }

theorem drainEntry_counted (e : Entry) (s : State) : DrainCounted s (drainEntry e s) := by
  unfold DrainCounted drainEntry
  split <;> simp [uncountReadRetry, answerEntry, changeEntry]

theorem drainFold_counted (es : List Entry) (s : State) : DrainCounted s (es.foldl (fun s e => drainEntry e s) s) := by
  induction es generalizing s with
  | nil => rfl
  | cons e rest ih =>
    have hhead : DrainCounted s (drainEntry e s) := drainEntry_counted e s
    have hrest := ih (drainEntry e s)
    unfold DrainCounted at hhead hrest ⊢
    rw [List.foldl_cons, hrest, hhead]

/-- Entries in WAITING are answered ABORTED one by one, and nothing else changes. -/
theorem drainFold_waiting {es : List Entry} {s : State} (h : ∀ e ∈ es, e.phase = .waiting) :
    es.foldl (fun s e => drainEntry e s) s =
      s.withQueue (s.queue.map fun x => if ∃ e ∈ es, e.tag = x.tag then x.answer .aborted else x) := by
  induction es generalizing s with
  | nil =>
    have hsame : s = s.withQueue s.queue := rfl
    simpa using hsame
  | cons e rest ih =>
    obtain ⟨he, hrest⟩ := List.forall_mem_cons.1 h
    have hretried : e.retriedIn s.slot = false := by
      unfold Entry.retriedIn
      split <;> simp [he]
    have hone : drainEntry e s = answerEntry e.tag .aborted s := by simp [drainEntry, hretried]
    rw [List.foldl_cons, hone, ih hrest]
    refine congrArg s.withQueue ?_
    show (s.queue.map _).map _ = _
    rw [List.map_map]
    refine List.map_congr_left fun x _ => ?_
    by_cases hx : x.tag = e.tag
    · by_cases hmore : ∃ y ∈ rest, y.tag = e.tag <;> simp [hx, hmore, Entry.answer]
    · have hx' : e.tag ≠ x.tag := fun heq => hx heq.symm
      simp [hx, hx']

theorem drainEntries_waiting {s : State} (h : ∀ e ∈ s.queue, e.phase = .waiting) :
    drainEntries s = s.withQueue (s.queue.map fun x => x.answer .aborted) := by
  have hall : (s.queue.filter fun e => e.phase.owing) = s.queue :=
    List.filter_eq_self.2 fun e he => by rw [h e he]; rfl
  unfold drainEntries
  rw [hall, drainFold_waiting h]
  exact congrArg s.withQueue (List.map_congr_left fun x hx => if_pos ⟨x, hx, rfl⟩)

/-! ### Entry to DRAINING (R56) -/

/-- The station at entry to DRAINING before its answered entries retire. -/
def drained (target : DrainTarget) (s : State) : State :=
  (withdrawVote (dropFence (doubtMirror (emptyTable (drainEntries s))))).withMembership
    { s.membership with state := .draining, initStep := none, drainTarget := some target, leaveDoubt := false }

theorem enterDraining_eq (target : DrainTarget) (s : State) : enterDraining target s = retireDone false (drained target s) := by
  simp [enterDraining, drained, withdrawVote, dropFence, doubtMirror, emptyTable]

theorem drained_blocks (target : DrainTarget) (s : State) :
    (drained target s).queue = (drainEntries s).queue ∧ (drained target s).port = s.port ∧
      (drained target s).counters = (drainEntries s).counters ∧ (drained target s).faults = (drainEntries s).faults := by
  simp [drained, withdrawVote, dropFence, doubtMirror, emptyTable]

theorem mem_enterDraining {target : DrainTarget} {s : State} {x : Entry} (h : x ∈ (enterDraining target s).queue) :
    x ∈ s.queue ∧ (x.phase = .readIssued ∨ x.phase = .writeIssued) := by
  obtain ⟨hqueue, -, -, -⟩ := drained_blocks target s
  rw [enterDraining_eq] at h
  obtain ⟨hmem, hopen⟩ := retireDone_remaining h
  rw [hqueue] at hmem
  exact mem_drainEntries hmem hopen

theorem enterDraining_counted (target : DrainTarget) (s : State) : DrainCounted s (enterDraining target s) := by
  obtain ⟨-, -, hcounters, -⟩ := drained_blocks target s
  have hdrained : DrainCounted s (drainEntries s) := drainFold_counted _ s
  unfold DrainCounted at hdrained ⊢
  rw [enterDraining_eq, retireDone_counters, hcounters, hdrained]

theorem enterDraining_port (target : DrainTarget) (s : State) :
    (enterDraining target s).port = { s.port with joining := (enterDraining target s).port.joining } := by
  obtain ⟨-, hport, -, -⟩ := drained_blocks target s
  rw [enterDraining_eq, retireDone_port, hport]

theorem joinAll_aborted (q : List Entry) (js : List Joining) :
    joinAll (q.map fun e => (e.answer .aborted, .aborted)) js = abortedAnswers q js := by
  unfold joinAll abortedAnswers
  rw [List.foldl_map]
  refine List.foldl_ext _ _ _ fun js e _ => ?_
  cases hmem : e.mem <;> simp [entryResponse, abortedResponse, Entry.answer, hmem, fenceCode]

/-- A station whose entries all wait drains with every one of them answered ABORTED and gone. -/
theorem enterDraining_waiting (target : DrainTarget) {s : State} (h : ∀ e ∈ s.queue, e.phase = .waiting) :
    (enterDraining target s).queue = [] ∧ (enterDraining target s).faults = s.faults ∧
      (enterDraining target s).port = { s.port with joining := abortedAnswers s.queue s.port.joining } ∧
      (enterDraining target s).counters =
        { s.counters with requestsCompleted := s.counters.requestsCompleted + BitVec.ofNat 32 s.queue.length } := by
  obtain ⟨hqueue, hport, hcounters, hfaults⟩ := drained_blocks target s
  rw [drainEntries_waiting h] at hqueue hcounters hfaults
  have hwalk : retireWalk (drained target s).slot false false (drained target s).queue =
      ([], s.queue.map fun e => (e.answer .aborted, .aborted)) := by
    rw [hqueue, retireWalk_answered (o := .aborted)]
    · exact congrArg (Prod.mk []) List.map_map
    · intro e he
      obtain ⟨x, -, rfl⟩ := List.mem_map.1 he
      rfl
  obtain ⟨hleft, hjoining, hcompleted⟩ := retireDone_walk false (drained target s)
  rw [hwalk] at hleft hjoining hcompleted
  rw [enterDraining_eq]
  refine ⟨hleft, by simpa using hfaults, ?_, ?_⟩
  · rw [retireDone_port, hjoining, hport, joinAll_aborted]
  · rw [retireDone_counters, hcompleted, hcounters]
    simp

theorem enterDraining_joining (target : DrainTarget) (s : State) :
    s.port.joining.Sublist (enterDraining target s).port.joining :=
  (enterDraining_moves target s).joining_sublist

/-- Settles O47: `enterDraining` block by block. -/
theorem restartDrainsToListening : Obligations.RestartDrainsToListening := by
  unfold Obligations.RestartDrainsToListening
  intro s tag hready
  have hexec : exec (.restart tag) s = .next (takeRestart tag (wordTaken s)) := portStep_ready (f := takeRestart tag) hready
  have hstate : (wordTaken s).membership.state = s.membership.state := rfl
  refine ⟨fun hloading => ?_, fun hdraining => ?_, fun hoff hloading hdraining => ?_⟩
  · rw [hexec]
    unfold takeRestart
    rw [hstate, hloading]
    rfl
  · rw [hexec]
    unfold takeRestart
    rw [hstate, hdraining]
    rfl
  · have htake : takeRestart tag (wordTaken s) = answerOk 8 tag (enterDraining .listening (wordTaken s)) := by
      unfold takeRestart
      rw [hstate]
      cases hst : s.membership.state <;> simp_all
    refine ⟨answerOk 8 tag (enterDraining .listening (wordTaken s)), hexec.trans (congrArg Host.Outcome.next htake), ?_⟩
    have hport : (enterDraining .listening (wordTaken s)).port =
        { s.port with inProgress := none, joining := (enterDraining .listening (wordTaken s)).port.joining } :=
      enterDraining_port .listening (wordTaken s)
    obtain ⟨hpending, hslot, hlines, hloader, hmemory, -, -, -⟩ := enterDraining_frame .listening (wordTaken s)
    simp only [answerOk_frame, OuterKept, hpending, hslot, hlines, hloader, hmemory, enterDraining_membership,
      enterDraining_mirror, enterDraining_table, enterDraining_vote, answerOk_port]
    refine ⟨⟨rfl, rfl, rfl, rfl⟩, rfl, rfl, trivial, rfl, trivial, trivial, trivial,
      ⟨_, enterDraining_joining .listening (wordTaken s), by rw [hport]⟩, fun e he => ?_, fun e he => ?_, fun hall => ?_⟩
    · obtain ⟨hmem, -⟩ := mem_enterDraining he
      exact hmem
    · obtain ⟨-, hphase⟩ := mem_enterDraining he
      exact hphase
    · obtain ⟨hqueue, hfaults, hmade, hcounters⟩ := enterDraining_waiting .listening (s := wordTaken s) hall
      exact ⟨hqueue, hfaults, by rw [hmade]; rfl, hcounters⟩

end Sys2Proof.Machine
end

section
/-! PROOFS. Reset, release, and the start record: its tests, a good one and a bad one (O50 to O52). -/

namespace Sys2Proof.Machine

/-! ### Hard reset and release -/

/-- Settles O50: the blocks of the reset state, and the release from OFF alone. -/
theorem resetAndRelease : Obligations.ResetAndRelease := by
  unfold Obligations.ResetAndRelease
  refine ⟨fun s => ⟨_, rfl, rfl, rfl, rfl, rfl, rfl, rfl, rfl, rfl, rfl, rfl, rfl, rfl, rfl, rfl, rfl⟩,
    fun s straps presence hoff => ?_, fun s straps presence hoff => ?_⟩
  · show execResetRelease straps presence s = _
    unfold execResetRelease
    rw [hoff]
    rfl
  · show execResetRelease straps presence s = _
    unfold execResetRelease
    split
    · contradiction
    · rfl

/-! ### The first failing test -/

/-- The detail of the first test that fails. -/
def firstFailing (ts : List RecordTest) : Option Nat := (ts.find? fun t => !t.1).map Prod.snd

theorem judgeRecord_eq (r : Record) : judgeRecord r = firstFailing (recordTests r) := rfl

theorem firstFailing_cons_pass {t : RecordTest} {ts : List RecordTest} (h : t.1 = true) :
    firstFailing (t :: ts) = firstFailing ts := by simp [firstFailing, h]

theorem firstFailing_cons_fail {t : RecordTest} {ts : List RecordTest} (h : t.1 = false) :
    firstFailing (t :: ts) = some t.2 := by simp [firstFailing, h]

theorem firstFailing_append_pass {a b : List RecordTest} (h : ∀ t ∈ a, t.1 = true) :
    firstFailing (a ++ b) = firstFailing b := by
  induction a with
  | nil => rfl
  | cons t rest ih =>
    obtain ⟨ht, hrest⟩ := List.forall_mem_cons.1 h
    rw [List.cons_append, firstFailing_cons_pass ht, ih hrest]

theorem firstFailing_append_fail {a b : List RecordTest} {d : Nat} (h : firstFailing a = some d) :
    firstFailing (a ++ b) = some d := by
  induction a with
  | nil => simp [firstFailing] at h
  | cons t rest ih =>
    cases ht : t.1 with
    | true =>
      rw [firstFailing_cons_pass ht] at h
      rw [List.cons_append, firstFailing_cons_pass ht, ih h]
    | false =>
      rw [firstFailing_cons_fail ht] at h
      rw [List.cons_append, firstFailing_cons_fail ht, h]

/-- An element of a strictly rising list splits it, with smaller ones alone before it. -/
theorem split_of_rising {α : Type} {key : α → Nat} {l : List α} {x : α} (hl : l.Pairwise fun a b => key a < key b)
    (hx : x ∈ l) : ∃ before after, l = before ++ x :: after ∧ ∀ y ∈ before, key y < key x := by
  obtain ⟨before, after, rfl⟩ := List.append_of_mem hx
  obtain ⟨-, -, hcross⟩ := List.pairwise_append.1 hl
  exact ⟨before, after, rfl, fun y hy => hcross y hy x List.mem_cons_self⟩

/-! ### The tests in their order -/

theorem fieldTests_eq (r : Record) : fieldTests r = recordRanges.map fun p => rangeTest r p.1 p.2.1 p.2.2 := rfl

theorem fieldTests_pass_iff {r : Record} : (∀ t ∈ fieldTests r, t.1 = true) ↔ FieldsInRange r 23 := by
  rw [fieldTests_eq, List.forall_mem_map]
  have hall : ∀ p ∈ recordRanges, p.1 < 23 := by decide
  exact ⟨fun h k low high hmem _ => rangeTest_iff.1 (h (k, low, high) hmem),
    fun h p hp => rangeTest_iff.2 (h p.1 p.2.1 p.2.2 hp (hall p hp))⟩

theorem rangeTest_fail {r : Record} {k low high : Nat} (h : recordField r k < low ∨ high < recordField r k) :
    (rangeTest r k low high).1 = false := by
  rw [← Bool.not_eq_true, rangeTest_iff]
  omega

theorem fieldTests_fail {r : Record} {k low high : Nat} (hmem : (k, low, high) ∈ recordRanges) (hbelow : FieldsInRange r k)
    (hout : recordField r k < low ∨ high < recordField r k) : firstFailing (fieldTests r) = some k := by
  have hrising : recordRanges.Pairwise fun a b => a.1 < b.1 := by decide
  obtain ⟨before, after, hsplit, hsmaller⟩ := split_of_rising hrising hmem
  have hfail : (rangeTest r k low high).1 = false := rangeTest_fail hout
  rw [fieldTests_eq, hsplit, List.map_append, List.map_cons, firstFailing_append_pass, firstFailing_cons_fail hfail]
  · rfl
  · rw [List.forall_mem_map]
    intro p hp
    refine rangeTest_iff.2 (hbelow p.1 p.2.1 p.2.2 ?_ (hsmaller p hp))
    rw [hsplit]
    exact List.mem_append_left _ hp

theorem usedWindows_eq {r : Record} (h : FieldsInRange r 23) : usedWindows r = List.range (recordField r 22) := by
  obtain ⟨-, hfour⟩ := h 22 1 4 (by decide) (by decide)
  unfold usedWindows
  rw [Nat.min_eq_left hfour]

theorem recordPair_base (r : Record) (n : Nat) : recordPair r (23 + 5 * n) = windowBase r n := by
  have hnext : 23 + 5 * n + 1 = 24 + 5 * n := by omega
  rw [recordPair, windowBase, hnext]

theorem recordPair_limit (r : Record) (n : Nat) : recordPair r (25 + 5 * n) = windowLimit r n := by
  have hnext : 25 + 5 * n + 1 = 26 + 5 * n := by omega
  rw [recordPair, windowLimit, hnext]

theorem windowTests_eq (r : Record) (n : Nat) : windowTests r n =
    [(decide (windowBase r n ≤ 16777215), 23 + 5 * n), (decide (windowLimit r n ≤ 16777215), 25 + 5 * n),
      rangeTest r (27 + 5 * n) 1 3] := by
  rw [windowTests, recordPair_base, recordPair_limit]

/-- The relation of R31 within a window. -/
def limitTest (r : Record) (n : Nat) : RecordTest := (decide (windowBase r n ≤ windowLimit r n), 25 + 5 * n)

theorem relationTests_eq (r : Record) : relationTests r =
    [(decide (recordField r 6 + 5 ≤ recordField r 10), 10), (decide (recordField r 10 ≤ recordField r 11), 11),
      (decide (recordField r 12 < recordField r 16), 16), (decide (recordField r 14 < recordField r 16), 16)] ++
      (usedWindows r).map (limitTest r) := by
  rw [relationTests]
  refine congrArg _ (List.map_congr_left fun n _ => ?_)
  rw [limitTest, recordPair_base, recordPair_limit]

theorem windowTests_pass_iff {r : Record} {n : Nat} : (∀ t ∈ windowTests r n, t.1 = true) ↔ WindowInRange r n := by
  rw [windowTests_eq]
  simp only [List.forall_mem_cons, decide_eq_true_iff, rangeTest_iff, List.not_mem_nil, false_implies, implies_true, and_true]
  exact Iff.rfl

theorem windows_pass_iff {r : Record} (h : FieldsInRange r 23) :
    (∀ t ∈ (usedWindows r).flatMap (windowTests r), t.1 = true) ↔ ∀ n < recordField r 22, WindowInRange r n := by
  rw [usedWindows_eq h, List.forall_mem_flatMap]
  simp only [List.mem_range, windowTests_pass_iff]

/-- The first window whose tests fail gives the detail. -/
theorem windows_fail {r : Record} {n d : Nat} (h : FieldsInRange r 23) (hn : n < recordField r 22)
    (hbefore : ∀ j < n, WindowInRange r j) (hfail : firstFailing (windowTests r n) = some d) :
    firstFailing ((usedWindows r).flatMap (windowTests r)) = some d := by
  obtain ⟨before, after, hsplit, hsmaller⟩ :=
    split_of_rising (key := id) List.pairwise_lt_range (List.mem_range.2 hn)
  rw [usedWindows_eq h, hsplit, List.flatMap_append, List.flatMap_cons, firstFailing_append_pass]
  · exact firstFailing_append_fail hfail
  · rw [List.forall_mem_flatMap]
    exact fun j hj => windowTests_pass_iff.2 (hbefore j (hsmaller j hj))

/-- The tests of the limits against the bases. -/
theorem limits_pass_iff {r : Record} (h : FieldsInRange r 23) :
    (∀ t ∈ (usedWindows r).map (limitTest r), t.1 = true) ↔ ∀ n < recordField r 22, windowBase r n ≤ windowLimit r n := by
  rw [usedWindows_eq h, List.forall_mem_map]
  simp only [List.mem_range, limitTest, decide_eq_true_iff]

theorem limits_fail {r : Record} {n : Nat} (h : FieldsInRange r 23) (hn : n < recordField r 22)
    (hbefore : ∀ j < n, windowBase r j ≤ windowLimit r j) (hfail : windowLimit r n < windowBase r n) :
    firstFailing ((usedWindows r).map (limitTest r)) = some (25 + 5 * n) := by
  obtain ⟨before, after, hsplit, hsmaller⟩ :=
    split_of_rising (key := id) List.pairwise_lt_range (List.mem_range.2 hn)
  rw [usedWindows_eq h, hsplit, List.map_append, List.map_cons, firstFailing_append_pass, firstFailing_cons_fail]
  · rfl
  · exact decide_eq_false (Nat.not_le_of_lt hfail)
  · rw [List.forall_mem_map]
    exact fun j hj => decide_eq_true (hbefore j (hsmaller j hj))

/-- The two tests of the whole record come first (R29). -/
theorem judgeRecord_of_header {r : Record} (hformat : recordField r 0 = 1)
    (hsum : (r.toList.map BitVec.toNat).sum % 65536 = 0) :
    judgeRecord r = firstFailing (fieldTests r ++ ((usedWindows r).flatMap (windowTests r) ++ relationTests r)) := by
  have hpass : ∀ t ∈ [(decide (recordField r 0 = 1), 0), (decide (recordSum r % 65536 = 0), 43)], t.1 = true := by
    simp [hformat, recordSum, hsum]
  rw [judgeRecord_eq, recordTests, List.append_assoc, List.append_assoc, firstFailing_append_pass hpass]

theorem judgeRecord_of_format {r : Record} (h : recordField r 0 ≠ 1) : judgeRecord r = some 0 := by
  rw [judgeRecord_eq, recordTests, List.append_assoc, List.append_assoc]
  exact firstFailing_cons_fail (decide_eq_false h)

theorem judgeRecord_of_sum {r : Record} (hformat : recordField r 0 = 1)
    (hsum : (r.toList.map BitVec.toNat).sum % 65536 ≠ 0) : judgeRecord r = some 43 := by
  rw [judgeRecord_eq, recordTests, List.append_assoc, List.append_assoc]
  exact (firstFailing_cons_pass (decide_eq_true hformat)).trans (firstFailing_cons_fail (decide_eq_false hsum))

section

variable {r : Record} (hformat : recordField r 0 = 1) (hsum : (r.toList.map BitVec.toNat).sum % 65536 = 0)
  (hfields : FieldsInRange r 23)

include hformat hsum hfields

theorem judgeRecord_of_fields :
    judgeRecord r = firstFailing ((usedWindows r).flatMap (windowTests r) ++ relationTests r) := by
  rw [judgeRecord_of_header hformat hsum, firstFailing_append_pass (fieldTests_pass_iff.2 hfields)]

theorem judgeRecord_of_windows (hwindows : ∀ n < recordField r 22, WindowInRange r n) :
    judgeRecord r = firstFailing (relationTests r) := by
  rw [judgeRecord_of_fields hformat hsum hfields, firstFailing_append_pass ((windows_pass_iff hfields).2 hwindows)]

theorem judgeRecord_of_window {n d : Nat} (hn : n < recordField r 22) (hbefore : ∀ j < n, WindowInRange r j)
    (hfail : firstFailing (windowTests r n) = some d) : judgeRecord r = some d := by
  rw [judgeRecord_of_fields hformat hsum hfields]
  exact firstFailing_append_fail (windows_fail hfields hn hbefore hfail)

end

theorem relationTests_pass_iff {r : Record} (h : FieldsInRange r 23) : (∀ t ∈ relationTests r, t.1 = true) ↔
    recordField r 6 + 5 ≤ recordField r 10 ∧ recordField r 10 ≤ recordField r 11 ∧ recordField r 12 < recordField r 16 ∧
      recordField r 14 < recordField r 16 ∧ ∀ n < recordField r 22, windowBase r n ≤ windowLimit r n := by
  rw [relationTests_eq, List.forall_mem_append, limits_pass_iff h]
  simp only [List.forall_mem_cons, decide_eq_true_iff, List.not_mem_nil, false_implies, implies_true, and_true, and_assoc]

/-- A record is good exactly when every test of R29 to R31 passes. -/
theorem judgeRecord_good_iff {r : Record} : judgeRecord r = none ↔
    recordField r 0 = 1 ∧ (r.toList.map BitVec.toNat).sum % 65536 = 0 ∧ FieldsInRange r 23 ∧
      (∀ n : Nat, n < recordField r 22 → WindowInRange r n) ∧ recordField r 6 + 5 ≤ recordField r 10 ∧
      recordField r 10 ≤ recordField r 11 ∧ recordField r 12 < recordField r 16 ∧ recordField r 14 < recordField r 16 ∧
      ∀ n : Nat, n < recordField r 22 → windowBase r n ≤ windowLimit r n := by
  rw [judgeRecord_eq_none_iff]
  unfold recordTests
  rw [List.forall_mem_append, List.forall_mem_append, List.forall_mem_append, fieldTests_pass_iff]
  simp only [List.forall_mem_cons, decide_eq_true_iff, List.not_mem_nil, false_implies, implies_true, and_true, and_assoc]
  refine and_congr_right fun _ => and_congr_right fun _ => and_congr_right fun hfields => ?_
  rw [windows_pass_iff hfields, relationTests_pass_iff hfields]

/-! ### The judgement taken -/

theorem stopAccount_faults_of_stopped {s : State} (h : s.controller.active = false) : (stopAccount s).faults = s.faults := by
  have hdue : periodDue s = false := by simp [periodDue, h]
  simp [stopAccount, hdue]

theorem faultNoted_enterWithdrawn {k : FaultKind} {d : Byte} {s : State} (h : s.controller.active = false) :
    FaultNoted k d s.faults (enterWithdrawn (recordFault k d s)).faults := by
  rw [enterWithdrawn, leaveChannel_faults, stopAccount_faults_of_stopped (s := recordFault k d s) h]
  exact faultNoted_recordFault k d s

/-- The station whose record has arrived, before it is judged. -/
def recordArrived (r : Record) (s : State) : State :=
  (s.withLoader { s.loader with record := some r, selected := false, serialOut := false, serialClock := false }).withWork
    { s.work with arrived := true, ended := true }

theorem completeRead_bad {r : Record} {d : Nat} (h : judgeRecord r = some d) (s : State) :
    completeRead r s = badRecord d (recordArrived r s) := by
  unfold completeRead
  dsimp only
  rw [h]
  rfl

theorem completeRead_good {r : Record} (h : judgeRecord r = none) (s : State) :
    completeRead r s = acceptRecord r (recordArrived r s) := by
  unfold completeRead
  dsimp only
  rw [h]
  rfl

/-- The read's last slot: no slot is left before the record arrives. -/
theorem exec_readComplete {s : State} (bits : SerialRecord) (hstate : s.membership.state = .loading) (hslot : 719 ≤ s.slot) :
    exec (.startRecordReadComplete bits) s = .next (completeRead (recordOfBits bits) s) := by
  have hnone : Config.recordReadSlots - 1 - s.slot = 0 := by
    simp only [Config.recordReadSlots]
    omega
  show execStartRecordReadComplete bits s = _
  unfold execStartRecordReadComplete
  rw [hstate, hnone]
  rfl

/-- Settles O52: the first failing test of the list, part by part, and the station's withdrawal. -/
theorem badRecordWithdraws : Obligations.BadRecordWithdraws := by
  unfold Obligations.BadRecordWithdraws
  refine ⟨⟨fun s bits r d hstate hslot hr hjudge hactive => ?_, fun r => judgeRecord_of_format, fun r => judgeRecord_of_sum,
    judgeRecord_of_format (by decide +kernel), fun s hstate hslot harrived => ?_, fun s bits hstate => ?_⟩,
    fun r => judgeRecord_good_iff, fun r hformat hsum => ⟨fun k low high hmem hbelow hout => ?_,
      fun hfields n hn hbefore => ?_, fun hfields hwindows => ?_⟩⟩
  · subst hr
    obtain ⟨⟨-, -, -, hloader⟩, hqueue, hport, hcounters, hmemory, hmirror, -, -, -, -, hroster, -⟩ :=
      badRecord_left d (recordArrived (recordOfBits bits) s)
    rw [exec_readComplete bits hstate hslot, completeRead_bad hjudge]
    refine ⟨_, rfl, hloader, ?_, hroster, hmirror, ?_, hqueue, hport, hcounters, hmemory⟩
    · rw [badRecord, enterWithdrawn, leaveChannel_membership]
    · exact faultNoted_enterWithdrawn (s := recordArrived (recordOfBits bits) s) hactive
  · have hover : readOver s.slot = true := decide_eq_true (Nat.succ_le_succ hslot)
    unfold defaultRecord
    rw [hstate]
    simp [hover, harrived, absentBits]
  · show execStartRecordReadComplete bits s = _
    unfold execStartRecordReadComplete
    split
    · contradiction
    · rfl
  · rw [judgeRecord_of_header hformat hsum]
    exact firstFailing_append_fail (fieldTests_fail hmem hbelow hout)
  · have hwindow := fun d => judgeRecord_of_window (d := d) hformat hsum hfields hn hbefore
    rw [windowTests_eq] at hwindow
    refine ⟨fun hbase => hwindow _ ?_, fun hbase hlimit => hwindow _ ?_, fun hbase hlimit hrights => hwindow _ ?_⟩
    · exact firstFailing_cons_fail (decide_eq_false (Nat.not_le_of_lt hbase))
    · exact (firstFailing_cons_pass (decide_eq_true hbase)).trans
        (firstFailing_cons_fail (decide_eq_false (Nat.not_le_of_lt hlimit)))
    · exact (firstFailing_cons_pass (decide_eq_true hbase)).trans ((firstFailing_cons_pass (decide_eq_true hlimit)).trans
        (firstFailing_cons_fail (rangeTest_fail hrights)))
  · rw [judgeRecord_of_windows hformat hsum hfields hwindows, relationTests_eq]
    refine ⟨fun hshort => ?_, fun hlong => ⟨fun hless => ?_, fun hmore => ⟨fun hwait => ?_, fun hbusy hwake n hn hbefore hfail => ?_⟩⟩⟩
    · exact firstFailing_cons_fail (decide_eq_false (Nat.not_le_of_lt hshort))
    all_goals refine (firstFailing_cons_pass (decide_eq_true hlong)).trans ?_
    · exact firstFailing_cons_fail (decide_eq_false (Nat.not_le_of_lt hless))
    all_goals refine (firstFailing_cons_pass (decide_eq_true hmore)).trans ?_
    · by_cases hbusy : recordField r 12 < recordField r 16
      · refine (firstFailing_cons_pass (decide_eq_true hbusy)).trans (firstFailing_cons_fail (decide_eq_false ?_))
        omega
      · exact firstFailing_cons_fail (decide_eq_false hbusy)
    · refine (firstFailing_cons_pass (decide_eq_true hbusy)).trans ((firstFailing_cons_pass (decide_eq_true hwake)).trans ?_)
      exact limits_fail hfields hn hbefore hfail

theorem recordSettings_windows {r : Record} (h : FieldsInRange r 23) :
    (recordSettings r).windows.length = recordField r 22 ∧ ∀ n < recordField r 22,
      (recordSettings r).windows[n]? =
        some { base := windowBase r n, limit := windowLimit r n, rights := recordField r (27 + 5 * n) } := by
  have hwindows : (recordSettings r).windows = (List.range (recordField r 22)).map (recordWindow r) :=
    congrArg (List.map (recordWindow r)) (usedWindows_eq h)
  rw [hwindows]
  refine ⟨by simp, fun n hn => ?_⟩
  rw [List.getElem?_map, List.getElem?_range hn]
  simp [recordWindow, recordPair_base, recordPair_limit]

/-- The station with a good record's configuration and arrival values, before the duplicate-number check. -/
def recordAccepted (r : Record) (s : State) : State :=
  ((recordArrived r s).withLoader
      { s.loader with
        record := some r, settings := some (recordSettings r), selected := false, serialOut := false,
        serialClock := false }).withMirror
    { s.mirror with kept := some (arrivalValues (recordTiming r) s.slot) }

theorem completeRead_checked {r : Record} (h : judgeRecord r = none) (s : State) :
    completeRead r s = checkNumber (resetPermission (recordAccepted r s)) := completeRead_good h s

theorem enterListening_faults (s : State) : (enterListening s).faults = (stopAccount s).faults := by
  simp [enterListening, leaveChannel]

/-- Settles O51: the bits of the words, the slots of the read, and the good record field by field. -/
theorem goodRecordIsLoaded : Obligations.GoodRecordIsLoaded := by
  unfold Obligations.GoodRecordIsLoaded
  refine ⟨fun bits k b hk hb => ?_, fun s bits hstate hslot => ?_, fun s bits r hstate hslot hr hjudge hactive => ?_⟩
  · have hword : (recordOfBits bits).toList.getD k 0 = bits.extractLsb' (16 * (43 - k)) 16 := by
      simp [recordOfBits, hk]
    have hplace : 16 * (43 - k) + b = 703 - (16 * k + (15 - b)) := by omega
    rw [hword, BitVec.getLsbD_extractLsb', hplace]
    simp [hb]
  · obtain ⟨hloading, hcount⟩ := passSlots_loading (n := 719 - s.slot) hstate (by omega)
    have hlast : (passSlots (719 - s.slot) s).slot = 719 := by omega
    refine ⟨hlast, hloading, ?_⟩
    rw [exec_readComplete bits hloading hlast.ge]
    show execStartRecordReadComplete bits s = _
    unfold execStartRecordReadComplete
    rw [hstate]
    rfl
  · obtain ⟨-, -, hfields, -⟩ := judgeRecord_good_iff.1 hjudge
    obtain ⟨hlength, hwindow⟩ := recordSettings_windows hfields
    obtain ⟨⟨hpending, hkeptSlot, hlines, hloader⟩, hqueue, hport, hcounters, hmemory, hmirror, -, -, -, -, hroster, -⟩ :=
      (checkNumber_left (resetPermission (recordAccepted r s))).of_resetPermission
    have hcheck : inRoster (resetPermission (recordAccepted r s)).membership.roster
        (resetPermission (recordAccepted r s)).number = inRoster s.membership.roster s.number := by
      simp [recordAccepted, recordArrived, State.number]
    have hstopped : (resetPermission (recordAccepted r s)).controller.active = false := hactive
    have hpermission : (resetPermission (recordAccepted r s)).controller.permission = some (recordSettings r).quietPermit :=
      resetPermission_permission rfl
    refine ⟨completeRead r s, recordSettings r, by rw [exec_readComplete bits hstate hslot, ← hr], ?_⟩
    rw [completeRead_checked hjudge]
    refine ⟨hloader, rfl, rfl, rfl, rfl, rfl, rfl, decide_eq_true_iff, decide_eq_true_iff, hlength, hwindow, rfl, rfl,
      (checkNumber_permission _).trans hpermission, hmirror, hroster, hqueue, hport, hcounters, hmemory, hlines, hpending,
      hkeptSlot, fun hfree => ?_, fun hused => ?_⟩
    · rw [checkNumber, hcheck, hfree, if_neg Bool.false_ne_true, enterListening_membership, enterListening_faults,
        stopAccount_faults_of_stopped hstopped]
      exact ⟨rfl, rfl, by simp [recordAccepted, recordArrived]⟩
    · rw [checkNumber, hcheck, if_pos hused]
      have hfaults : (resetPermission (recordAccepted r s)).faults = s.faults := by simp [recordAccepted, recordArrived]
      have hnumber : (resetPermission (recordAccepted r s)).number = s.number := by
        simp [recordAccepted, recordArrived, State.number]
      rw [← hfaults, hnumber]
      exact ⟨by rw [enterWithdrawn, leaveChannel_membership], faultNoted_enterWithdrawn hstopped⟩

end Sys2Proof.Machine
end

section
/-! PROOFS. The channel memory: what it accepts, what an accepted command changes, and the bursts it receives and drives
(O38, O53, O54). -/

namespace Sys2Proof.Machine

/-! ### The banks of the memory -/

theorem ChannelMemory.bank_eq_getElem (m : ChannelMemory) (k : BankNo) : m.bank k = m.banks[k.toNat] := rfl

@[simp] theorem ChannelMemory.withBank_bank_same (m : ChannelMemory) (k : BankNo) (b : MemoryBank) :
    (m.withBank k b).bank k = b := by
  simp [ChannelMemory.bank_eq_getElem, ChannelMemory.withBank]

theorem ChannelMemory.withBank_bank_other (m : ChannelMemory) {j k : BankNo} (b : MemoryBank) (h : j ≠ k) :
    (m.withBank k b).bank j = m.bank j := by
  have hn : k.toNat ≠ j.toNat := fun e => h (BitVec.eq_of_toNat_eq e.symm)
  simp [ChannelMemory.bank_eq_getElem, ChannelMemory.withBank, Vector.getElem_set_ne, hn]

@[simp] theorem ChannelMemory.mapBanks_bank (m : ChannelMemory) (f : MemoryBank → MemoryBank) (k : BankNo) :
    (m.mapBanks f).bank k = f (m.bank k) := by
  simp [ChannelMemory.bank_eq_getElem, ChannelMemory.mapBanks]

/-- Every bank of the list is a bank of some number. -/
theorem ChannelMemory.all_banks_iff {m : ChannelMemory} {p : MemoryBank → Bool} :
    m.banks.toList.all p = true ↔ ∀ k, p (m.bank k) = true := by
  rw [List.all_eq_true]
  constructor
  · exact fun h k => h _ (by rw [Vector.mem_toList_iff]; exact Vector.getElem_mem k.isLt)
  · intro h b hb
    obtain ⟨i, hi, rfl⟩ := Vector.mem_iff_getElem.1 (Vector.mem_toList_iff.1 hb)
    have hk := h (BitVec.ofNatLT i hi)
    simpa [ChannelMemory.bank_eq_getElem] using hk

theorem ChannelMemory.bankHeld_iff {m : ChannelMemory} {b : MemoryBank} :
    m.bankHeld b = false ↔ (b.row ≠ none → b.heldUntil ≤ m.now ∧ b.recoveringUntil ≤ m.now) := by
  unfold ChannelMemory.bankHeld
  cases b.row <;> simp

theorem ChannelMemory.settled_iff {m : ChannelMemory} : m.settled = true ↔
    (∀ k, (m.bank k).row = none ∧ (m.bank k).openFrom ≤ m.now) ∧ ∀ o ∈ m.schedule, o.slot < m.now := by
  unfold ChannelMemory.settled
  rw [Bool.and_eq_true, ChannelMemory.all_banks_iff]
  simp

theorem ChannelMemory.acceptsColumn_iff {m : ChannelMemory} {d : Direction} {bank : BankNo} {column : ColumnNo}
    {bursts : BurstCount} : m.acceptsColumn d bank column bursts = true ↔
      m.asleep = false ∧ (m.bank bank).row ≠ none ∧ (m.bank bank).columnFrom ≤ m.now ∧ 1 ≤ bursts.toNat ∧
        bursts.toNat ≤ 4 ∧ column.toNat + bursts.toNat ≤ 32 ∧ m.dataFrom d ≤ m.now + m.latency d := by
  simp [ChannelMemory.acceptsColumn, and_assoc, Option.isSome_iff_ne_none]

/-- What the data lines let a column command of a direction begin with, once one has run or its latency is not 0 (R10). -/
theorem ChannelMemory.dataFrom_le_iff {m : ChannelMemory} {d : Direction} (h : m.lastData ≠ none ∨ 1 ≤ m.latency d) :
    m.dataFrom d ≤ m.now + m.latency d ↔ ∀ last previous, m.lastData = some (last, previous) →
      last + 1 + (if previous = d then 0 else if d = .write then m.timing.turnRW else m.timing.turnWR) ≤
        m.now + m.latency d := by
  unfold ChannelMemory.dataFrom
  cases hl : m.lastData with
  | none =>
    have hlatency : 1 ≤ m.latency d := h.resolve_left fun hne => hne hl
    simp
    omega
  | some p =>
    obtain ⟨last, previous⟩ := p
    cases previous <;> cases d <;> simp

theorem exec_laneStep {i : StationNo} {c : LaneCommand} {s : State} (h : ReadyToObserve (.command i c) s) :
    exec (laneStep i c) s = .next (observe (.command i c) s) := by
  have hexec : exec (laneStep i c) s = .next (observeCommand i c s) := by cases c <;> rfl
  rw [hexec, observeCommand, observeWord_ready _ h]

/-- Settles O53: the acceptance by the kind of command, and its effect bank by bank. -/
theorem memoryTakesObservedCommand : Obligations.MemoryTakesObservedCommand := by
  unfold Obligations.MemoryTakesObservedCommand
  refine ⟨fun s i c hready => ?_, fun m x y bank row column bursts p d e => ?_,
    fun m x bank row column bursts p d item value => ?_, fun m own x bank row column bursts p d value => ?_⟩
  · refine ⟨_, exec_laneStep hready, fun haccepts => ?_, fun hrefuses => ?_⟩
    · rw [observe_memory]
      simp [giveMemory, ChannelMemory.take, haccepts]
    · rw [observe_memory]
      simp [giveMemory, ChannelMemory.take, hrefuses, ChannelMemory.refuse]
  · exact ⟨rfl, rfl, by cases p <;> rfl, rfl, rfl, rfl, rfl, rfl⟩
  · dsimp only
    have hfree : decide (m.blockUntil ≤ m.now) = true ↔ m.blockUntil ≤ m.now := decide_eq_true_iff
    refine ⟨?_, ?_, ?_, fun hp => ?_, fun hdata => ?_, fun hdata => ?_, ?_, ?_, ?_, ?_⟩
    · unfold ChannelMemory.accepts
      rw [Bool.and_eq_true, hfree]
      cases m.lastOpen <;> simp [and_assoc]
    · unfold ChannelMemory.accepts
      rw [Bool.and_eq_true, hfree, Bool.and_eq_true, Bool.not_eq_true', ChannelMemory.bankHeld_iff]
      simp [and_assoc, Option.isSome_iff_ne_none]
    · simp [ChannelMemory.accepts]
    · have hpurpose : m.accepts (.closeAll x p d) =
          (decide (m.blockUntil ≤ m.now) && (!m.asleep && m.banks.toList.all fun b => !m.bankHeld b)) := by
        cases p with
        | init => contradiction
        | _ => rfl
      rw [hpurpose, Bool.and_eq_true, hfree, Bool.and_eq_true, ChannelMemory.all_banks_iff]
      simp only [Bool.not_eq_true', ChannelMemory.bankHeld_iff]
    · unfold ChannelMemory.accepts
      rw [Bool.and_eq_true, hfree, ChannelMemory.acceptsColumn_iff, ChannelMemory.dataFrom_le_iff hdata]
      repeat refine and_congr_right fun _ => ?_
      exact forall₃_congr fun last previous _ => by cases previous <;> rfl
    · unfold ChannelMemory.accepts
      rw [Bool.and_eq_true, hfree, ChannelMemory.acceptsColumn_iff, ChannelMemory.dataFrom_le_iff hdata]
      repeat refine and_congr_right fun _ => ?_
      exact forall₃_congr fun last previous _ => by cases previous <;> rfl
    · unfold ChannelMemory.accepts
      rw [Bool.and_eq_true, hfree, Bool.and_eq_true, ChannelMemory.settled_iff, Bool.not_eq_true']
    · unfold ChannelMemory.accepts
      rw [Bool.and_eq_true, hfree, Bool.and_eq_true, ChannelMemory.settled_iff, Bool.not_eq_true']
    · unfold ChannelMemory.accepts
      rw [Bool.and_eq_true, hfree]
    · unfold ChannelMemory.accepts
      rw [Bool.and_eq_true, hfree]
      refine and_congr_right fun _ => ?_
      dsimp only
      split
      · next hitem => simp [hitem]
      · next hread =>
        split
        · next hitem => simp [hitem]
        · next hwrite =>
          have hother : 2 ≤ item.toNat := by bv_omega
          have hnotRead : item ≠ 0#2 := hread
          have hnotWrite : item ≠ 1#2 := hwrite
          simp [hnotRead, hnotWrite, hother]
  · have hcloseAll : m.effect own (.closeAll x p d) = m.closeEvery ∨ p = .init := by
      cases p with
      | init => exact .inr rfl
      | _ => exact .inl rfl
    refine ⟨⟨rfl, by simp [ChannelMemory.effect, ChannelMemory.bank_eq_getElem, ChannelMemory.withBank],
      fun k hk => ChannelMemory.withBank_bank_other m _ hk⟩,
      ⟨rfl, ChannelMemory.withBank_bank_same m _ _, fun k hk => ChannelMemory.withBank_bank_other m _ hk⟩,
      ⟨fun k => ?_, fun hp => ?_, fun hp => ?_⟩, ⟨rfl, fun row hrow => ?_⟩,
      ⟨rfl, ChannelMemory.withBank_bank_same _ _ _, fun k hk => ChannelMemory.withBank_bank_other _ _ hk, fun row hrow => ?_⟩,
      rfl, rfl, rfl, rfl, rfl, rfl, rfl⟩
    · have hbank := ChannelMemory.mapBanks_bank m
        (fun b => { b with row := none, openFrom := m.now + m.timing.closeDelay }) k
      cases p <;> exact hbank
    · subst hp
      rfl
    · rw [hcloseAll.resolve_right hp]
      rfl
    · show m.schedule ++ m.own .read bank column bursts own = _
      simp [ChannelMemory.own, hrow, granuleOf, ChannelMemory.latency]
    · show m.schedule ++ m.own .write bank column bursts own = _
      simp [ChannelMemory.own, hrow, granuleOf, ChannelMemory.latency]

/-! ### The burst check and the bytes of a burst (R173, R195) -/

theorem burstByte_of_place (d : BurstData) {k j : Nat} (h : j < 8) :
    burstByte d (8 * k + j) = (d.toList.getD k 0).extractLsb' (8 * j) 8 := by
  have hword : (8 * k + j) / 8 = k := by omega
  have hbyte : (8 * k + j) % 8 = j := by omega
  rw [burstByte, hword, hbyte]

/-- The check goes through the words as it goes through the bytes in address order. -/
theorem burstCheck_bytes (d : BurstData) : burstCheck d = (List.range 64).foldl (fun r j => crcByte r (burstByte d j)) 0 := by
  have hwords : d.toList = (List.range 8).map fun k => d.toList.getD k 0 := by
    refine List.ext_getElem (by simp) fun k hk _ => ?_
    simp only [Vector.length_toList] at hk
    simp [hk]
  have hbytes : List.range 64 = (List.range 8).flatMap fun k => (List.range 8).map fun j => 8 * k + j := by decide
  rw [hbytes, List.foldl_flatMap, burstCheck]
  conv_lhs => rw [hwords]
  rw [List.foldl_map]
  refine List.foldl_ext _ _ _ fun r k _ => ?_
  rw [List.foldl_map]
  refine List.foldl_ext _ _ _ fun r j hj => ?_
  rw [burstByte_of_place d (List.mem_range.1 hj)]

theorem burstByte_zeroBurst (j : Nat) : burstByte zeroBurst j = 0 := by
  have hword : zeroBurst.toList.getD (j / 8) 0 = 0 := by
    have hlist : zeroBurst.toList = List.replicate 8 0 := rfl
    rw [hlist, List.getD_eq_getElem?_getD]
    exact List.getElem?_getD_replicate_default_eq 0 8 _
  rw [burstByte, hword]
  simp

/-- The register stays at 0 over zero bytes. -/
theorem burstCheck_zeroBurst : burstCheck zeroBurst = 0 := by
  have hbyte : crcByte 0 0 = 0 := by decide
  rw [burstCheck_bytes]
  simp only [burstByte_zeroBurst]
  exact List.foldlRecOn (motive := fun r => r = 0) _ _ rfl fun r hr _ _ => hr ▸ hbyte

theorem dueBurst_of_issue {latency slot w i : Nat} {m : MemFields} (hw : m.issueSlot = some w)
    (hslot : slot = w + latency + i) (hi : i < m.bursts.toNat) : dueBurst latency slot m = some i := by
  have hdue : w + latency ≤ slot ∧ slot < w + latency + m.bursts.toNat := by omega
  have hnumber : slot - (w + latency) = i := by omega
  rw [dueBurst, hw]
  dsimp only
  rw [if_pos hdue, hnumber]

/-- Settles O38: the one entry whose burst is due, and the check byte by byte. -/
theorem writeBurstDriveDrivesBurst : Obligations.WriteBurstDriveDrivesBurst := by
  unfold Obligations.WriteBurstDriveDrivesBurst
  refine ⟨fun s before after e m w i b hqueue hbefore hphase hmem hissue hslot hi hburst hdriving => ?_,
    fun d => burstCheck_bytes d, fun d j b hj hb => ?_⟩
  · have hentry : driveOfEntry s e = some ⟨b.data, b.mask, burstCheck b.data⟩ := by
      rw [driveOfEntry, hphase, hmem]
      dsimp only
      rw [dueBurst_of_issue hissue hslot hi]
      dsimp only
      rw [hburst]
      rfl
    have hdrive : driveOf s = some ⟨b.data, b.mask, burstCheck b.data⟩ := by
      rw [driveOf, hqueue, List.findSome?_append, List.findSome?_eq_none_iff.2 hbefore, List.findSome?_cons, hentry]
      rfl
    show Host.Outcome.next (driveBurst s) = _
    rw [driveBurst, hdriving, hdrive]
    rfl
  · rw [burstByte, BitVec.getLsbD_extractLsb']
    simp [hb]

theorem wordOfBytes_byte (f : Nat → Byte) (k : Nat) {j : Nat} (h : j < 8) :
    (wordOfBytes f k).extractLsb' (8 * j) 8 = f (8 * k + j) := by
  unfold wordOfBytes
  interval_cases j <;>
    simp (disch := decide) only [BitVec.extractLsb'_cast, BitVec.extractLsb'_append_eq_of_le,
      BitVec.extractLsb'_append_eq_of_add_le, BitVec.extractLsb'_eq_self, Nat.reduceSub, Nat.reduceMul, -Nat.reduceAdd,
      Nat.add_zero]

theorem burstByte_burstOfBytes (f : Nat → Byte) {j : Nat} (h : j < 64) : burstByte (burstOfBytes f) j = f j := by
  have hwords : (burstOfBytes f).toList = (List.range 8).map (wordOfBytes f) := rfl
  have hword : j / 8 < 8 := by omega
  have hplace : 8 * (j / 8) + j % 8 = j := by omega
  have hget : (burstOfBytes f).toList.getD (j / 8) 0 = wordOfBytes f (j / 8) := by
    rw [hwords]
    simp [hword]
  rw [burstByte, hget, wordOfBytes_byte f _ (Nat.mod_lt j (by decide)), hplace]

/-! ### A granule stored and forgotten (R19) -/

section

variable (g : Nat) (d : BurstData) (mask : Mask)

theorem readByte_storeBytes_other {js : List Nat} {m : List Host.Cell} {a : Nat}
    (h : ∀ j ∈ js, mask.getLsbD j = true → a ≠ 64 * g + j) :
    readByte (js.foldl (fun m j => if mask.getLsbD j then storeByte m (64 * g + j) (burstByte d j) else m) m) a =
      readByte m a := by
  induction js generalizing m with
  | nil => rfl
  | cons j rest ih =>
    obtain ⟨hj, hrest⟩ := List.forall_mem_cons.1 h
    rw [List.foldl_cons, ih hrest]
    split
    · next hmask => exact readByte_storeByte_other m _ (hj hmask)
    · rfl

theorem readByte_storeBytes_same {js : List Nat} {m : List Host.Cell} {j : Nat} (hj : j ∈ js) (hmask : mask.getLsbD j = true) :
    readByte (js.foldl (fun m j => if mask.getLsbD j then storeByte m (64 * g + j) (burstByte d j) else m) m) (64 * g + j) =
      some (burstByte d j) := by
  induction js generalizing m with
  | nil => simp at hj
  | cons x rest ih =>
    rw [List.foldl_cons]
    by_cases hrest : j ∈ rest
    · exact ih hrest
    · obtain rfl : j = x := (List.mem_cons.1 hj).resolve_right hrest
      rw [readByte_storeBytes_other, if_pos hmask, readByte_storeByte_same]
      intro y hy _ heq
      obtain rfl : j = y := by omega
      exact hrest hy

theorem readByte_storeGranule_same (m : List Host.Cell) {j : Nat} (hj : j < 64) (hmask : mask.getLsbD j = true) :
    readByte (storeGranule m g d mask) (64 * g + j) = some (burstByte d j) :=
  readByte_storeBytes_same g d mask (List.mem_range.2 hj) hmask

theorem readByte_storeGranule_other (m : List Host.Cell) {a : Nat}
    (h : ∀ j, j < 64 → mask.getLsbD j = true → a ≠ 64 * g + j) : readByte (storeGranule m g d mask) a = readByte m a :=
  readByte_storeBytes_other g d mask fun j hj => h j (List.mem_range.1 hj)

end

theorem readByte_forgetBytes_other (g : Nat) {js : List Nat} {m : List Host.Cell} {a : Nat} (h : ∀ j ∈ js, a ≠ 64 * g + j) :
    readByte (js.foldl (fun m j => forgetByte m (64 * g + j)) m) a = readByte m a := by
  induction js generalizing m with
  | nil => rfl
  | cons j rest ih =>
    obtain ⟨hj, hrest⟩ := List.forall_mem_cons.1 h
    rw [List.foldl_cons, ih hrest, readByte_forgetByte_other m hj]

theorem readByte_forgetBytes_same (g : Nat) {js : List Nat} {m : List Host.Cell} {j : Nat} (hj : j ∈ js)
    (hm : contentsOk m = true) : readByte (js.foldl (fun m j => forgetByte m (64 * g + j)) m) (64 * g + j) = none := by
  induction js generalizing m with
  | nil => simp at hj
  | cons x rest ih =>
    rw [List.foldl_cons]
    by_cases hrest : j ∈ rest
    · exact ih hrest (forgetByte_ok _ hm)
    · obtain rfl : j = x := (List.mem_cons.1 hj).resolve_right hrest
      rw [readByte_forgetBytes_other, readByte_forgetByte_same _ hm]
      intro y hy heq
      obtain rfl : j = y := by omega
      exact hrest hy

theorem readByte_forgetGranule {m : List Host.Cell} (g a : Nat) (hm : contentsOk m = true) :
    readByte (forgetGranule m g) a = if a / 64 = g then none else readByte m a := by
  split
  · next hg =>
    have hplace : a = 64 * g + a % 64 := by omega
    rw [hplace]
    exact readByte_forgetBytes_same g (List.mem_range.2 (Nat.mod_lt a (by decide))) hm
  · next hg =>
    refine readByte_forgetBytes_other g fun j hj => ?_
    have hsmall := List.mem_range.1 hj
    omega

/-! ### A burst received (R19, R20) -/

theorem ChannelMemory.receive_passed {m : ChannelMemory} {d : DataSlot} (o : OwnedSlot)
    (h : m.checkEnable = false ∨ burstCheck d.data = d.check) :
    m.receive (some d) o = (m.store o.granule d).endWrite o.last := by
  have hjudge : (m.checkEnable && decide (burstCheck d.data ≠ d.check)) = false := by
    rcases h with h | h <;> simp [h]
  unfold ChannelMemory.receive
  dsimp only
  rw [Option.getD_some, hjudge]
  simp

theorem ChannelMemory.receive_failed {m : ChannelMemory} {d : DataSlot} (o : OwnedSlot) (henable : m.checkEnable = true)
    (hcheck : burstCheck d.data ≠ d.check) :
    m.receive (some d) o = ({ m with writeFailed := true } : ChannelMemory).endWrite o.last := by
  unfold ChannelMemory.receive
  simp [henable, hcheck]

/-- An own burst that nobody drives is received as the undriven lines read (R5). -/
theorem ChannelMemory.receive_own {m : ChannelMemory} {o : OwnedSlot} (h : o.own = true) :
    m.receive none o = m.receive (some undrivenSlot) o := by
  unfold ChannelMemory.receive
  rw [h]
  rfl

theorem ChannelMemory.store_undriven (m : ChannelMemory) (g : Nat) : (m.store g undrivenSlot).contents = m.contents := by
  unfold ChannelMemory.store
  split
  · simp [storeGranule, undrivenSlot]
  · rfl

theorem ChannelMemory.endWrite_last (m : ChannelMemory) : (m.endWrite true).writeFailed = false ∧
    (m.endWrite true).writeAlerts = if m.writeFailed then m.writeAlerts ++ [m.now + 1] else m.writeAlerts := ⟨rfl, rfl⟩

theorem ChannelMemory.store_writes (m : ChannelMemory) (g : Nat) (d : DataSlot) :
    (m.store g d).writeFailed = m.writeFailed ∧ (m.store g d).writeAlerts = m.writeAlerts ∧ (m.store g d).now = m.now := by
  unfold ChannelMemory.store
  split <;> simp

/-- What a burst received leaves of the memory for the rest of the slot's end. -/
theorem ChannelMemory.receive_kept (m : ChannelMemory) (driving : Option DataSlot) (o : OwnedSlot) :
    (m.receive driving o).now = m.now ∧ (m.receive driving o).schedule = m.schedule ∧
      (m.receive driving o).reads = m.reads ∧ (m.receive driving o).asleep = m.asleep ∧
      (m.receive driving o).gapSettled = m.gapSettled := by
  unfold ChannelMemory.receive ChannelMemory.endWrite ChannelMemory.store
  dsimp only
  (repeat' split) <;> simp

/-! ### The end of a slot at the memory -/

/-- The memory once the slot's burst has been received. -/
def ChannelMemory.settle (m : ChannelMemory) : ChannelMemory :=
  ChannelMemory.openSlot { m.fixReads.ageRetention with now := m.fixReads.ageRetention.now + 1 }

theorem ChannelMemory.endSlot_of_write {m : ChannelMemory} (driving : Option DataSlot) {w : OwnedSlot} (hw : m.current = some w)
    (hdirection : w.direction = .write) : m.endSlot driving = (m.receive driving w).settle := by
  unfold ChannelMemory.endSlot
  rw [hw]
  dsimp only
  rw [hdirection]
  rfl

theorem ChannelMemory.endSlot_of_read {m : ChannelMemory} (driving : Option DataSlot)
    (h : ∀ w, m.current = some w → w.direction = .read) : m.endSlot driving = m.settle := by
  unfold ChannelMemory.endSlot
  cases hw : m.current with
  | none => rfl
  | some w =>
    dsimp only
    rw [h w hw]
    rfl

theorem ChannelMemory.ageRetention_kept (m : ChannelMemory) :
    m.ageRetention.now = m.now ∧ m.ageRetention.schedule = m.schedule := by
  unfold ChannelMemory.ageRetention
  (repeat' split) <;> simp

theorem ChannelMemory.settle_contents {m : ChannelMemory} (h : m.asleep = true ∨ m.gapSettled = true) :
    m.settle.contents = m.contents := by
  have hsame : m.fixReads.ageRetention = m.fixReads := if_pos (by rcases h with h | h <;> simp [ChannelMemory.fixReads, h])
  unfold ChannelMemory.settle
  rw [hsame]
  rfl

theorem ChannelMemory.settle_schedule {m : ChannelMemory} {o : OwnedSlot} (ho : o ∈ m.schedule) (hdirection : o.direction = .read)
    (hdata : o.data = none) (hslot : m.now < o.slot) :
    { o with data := some (readGranule m.contents m.reads o.granule) } ∈ m.settle.schedule := by
  obtain ⟨hnow, hschedule⟩ := m.fixReads.ageRetention_kept
  refine List.mem_filter.2 ⟨?_, ?_⟩
  · show _ ∈ m.fixReads.ageRetention.schedule
    rw [hschedule]
    refine List.mem_map.2 ⟨o, ho, ?_⟩
    rw [hdirection, hdata]
  · refine decide_eq_true ?_
    show m.fixReads.ageRetention.now + 1 ≤ o.slot
    rw [hnow]
    exact hslot

/-- Settles O54: a burst received, a slot's end, and what the data lines carry. -/
theorem receivedBurstIsStored : Obligations.ReceivedBurstIsStored := by
  unfold Obligations.ReceivedBurstIsStored
  refine ⟨⟨fun m d o hretaining hpass => ?_, fun m d o henable hcheck => ?_, fun m => ⟨fun h => ?_, fun hawake hopen hlimit => ?_,
    fun hawake hopen hlimit => ?_⟩⟩, fun m d o hpass => ?_, fun m o => ⟨fun hown => ?_, fun hother hok a => ?_⟩,
    fun m driving w hw hdirection => ?_, fun m driving hread => ?_, fun contents n granule j hj => ?_, fun m d => rfl,
    fun m o data hcurrent hdirection hdata => ?_, fun m hwrite => ?_⟩
  · rw [ChannelMemory.receive_passed o hpass, ChannelMemory.endWrite_contents]
    have hcontents : (m.store o.granule d).contents = storeGranule m.contents o.granule d.data d.mask := by
      simp [ChannelMemory.store, hretaining]
    rw [hcontents]
    refine ⟨fun j hj hmask => readByte_storeGranule_same _ _ _ _ hj hmask,
      fun a ha => readByte_storeGranule_other _ _ _ _ ha, fun hfailed => ?_⟩
    obtain ⟨hstored, halerts, -⟩ := m.store_writes o.granule d
    cases o.last with
    | false => exact halerts
    | true =>
      obtain ⟨-, hend⟩ := (m.store o.granule d).endWrite_last
      rw [hend, hstored, hfailed]
      exact halerts
  · rw [ChannelMemory.receive_failed o henable hcheck, ChannelMemory.endWrite_contents]
    refine ⟨rfl, fun hlast => ?_, fun hlast => ?_⟩
    · rw [hlast]
      rfl
    · rw [hlast]
      exact ⟨rfl, rfl⟩
  · exact if_pos (by rcases h with h | h <;> simp [h])
  · simp [ChannelMemory.ageRetention, hawake, hopen, Nat.not_lt_of_le hlimit]
  · simp [ChannelMemory.ageRetention, hawake, hopen, hlimit]
  · rw [ChannelMemory.receive_passed o hpass, ChannelMemory.endWrite_contents]
    obtain ⟨hstored, halerts, hnow⟩ := m.store_writes o.granule d
    refine ⟨fun hlost => by simp [ChannelMemory.store, hlost], fun hlast => ?_, fun hlast => ?_⟩
    · obtain ⟨hcleared, hend⟩ := (m.store o.granule d).endWrite_last
      rw [hlast, hend, hstored, halerts, hnow]
      exact ⟨hcleared, rfl⟩
    · rw [hlast]
      exact ⟨hstored, halerts⟩
  · have hundriven : burstCheck undrivenSlot.data ≠ undrivenSlot.check := by
      rw [undrivenSlot, burstCheck_zeroBurst]
      decide
    rw [ChannelMemory.receive_own hown]
    refine ⟨?_, fun henable hlast => ?_⟩
    · cases henable : m.checkEnable with
      | false =>
        rw [ChannelMemory.receive_passed o (.inl henable), ChannelMemory.endWrite_contents, ChannelMemory.store_undriven]
      | true =>
        rw [ChannelMemory.receive_failed o henable hundriven, ChannelMemory.endWrite_contents]
    · rw [ChannelMemory.receive_failed o henable hundriven, hlast]
      rfl
  · have hforget : (m.receive none o).contents = forgetGranule m.contents o.granule := by
      unfold ChannelMemory.receive
      rw [ChannelMemory.endWrite_contents, hother]
    rw [hforget]
    exact readByte_forgetGranule o.granule a hok
  · obtain ⟨hnow, hschedule, hreads, hasleep, hgap⟩ := m.receive_kept driving w
    rw [ChannelMemory.endSlot_of_write driving hw hdirection]
    refine ⟨fun h => ChannelMemory.settle_contents (by rwa [hasleep, hgap]), fun o ho hdir hdata hslot => ?_⟩
    rw [← hreads]
    exact ChannelMemory.settle_schedule (by rwa [hschedule]) hdir hdata (by rwa [hnow])
  · rw [ChannelMemory.endSlot_of_read driving hread]
    exact ⟨fun h => ChannelMemory.settle_contents h,
      fun o ho hdir hdata hslot => ChannelMemory.settle_schedule ho hdir hdata hslot⟩
  · exact burstByte_burstOfBytes _ hj
  · unfold dataLines
    rw [hcurrent]
    dsimp only
    rw [hdirection, hdata]
  · unfold dataLines
    cases hcurrent : m.current with
    | none => rfl
    | some o =>
      dsimp only
      rw [hwrite o hcurrent]
      rfl

end Sys2Proof.Machine
end

section
/-! PROOFS. The observed commands that a known mirror's comparison passes (O13, O15, O17 to O19). -/

namespace Sys2Proof.Machine

/-! ### The command taken, and the end of its observation -/

/-- The end of an observation: an alert that waits for the state is judged, and what is answered retires. -/
def concluded (u : State) : State := retireDone false (judgeAlerted false u)

@[simp] theorem concluded_frame (u : State) :
    (concluded u).pending = u.pending ∧ (concluded u).slot = u.slot ∧ (concluded u).lines = u.lines ∧
      (concluded u).loader = u.loader ∧ (concluded u).membership = u.membership ∧ (concluded u).mirror = u.mirror ∧
      (concluded u).table = u.table ∧ (concluded u).dataUnit = u.dataUnit ∧ (concluded u).memory = u.memory := by
  simp [concluded]

@[simp] theorem concluded_controller (u : State) :
    (concluded u).controller.active = u.controller.active ∧ (concluded u).controller.debt = u.controller.debt ∧
      (concluded u).controller.counting = u.controller.counting ∧
      (concluded u).controller.periodCount = u.controller.periodCount ∧ (concluded u).controller.duty = u.controller.duty ∧
      (concluded u).controller.vote = u.controller.vote := by
  simp [concluded]

theorem concluded_of_calm {u : State} (hq : QueueOpen u) (ha : u.work.attributed = none) : concluded u = u :=
  settle_observation_of_calm hq ha

theorem exec_laneStep_taken {s : State} {i : StationNo} {c : LaneCommand} (hl : takesLane s = true)
    (hr : ReadyToObserve (.command i c) s) :
    exec (laneStep i c) s = .next (concluded (takeCommand i c (heard (.command i c) s))) := by
  rw [exec_laneStep hr, observe_of_takesLane _ hl]
  rfl

/-- A command that changes no more than the mirror, its fields and the account: it is applied, and a silence ends. -/
def commandTaken (i : StationNo) (c : LaneCommand) (s : State) : State :=
  followRefresh ((accountCommand c (applyMirror c (noteCommand i c (heard (.command i c) s)))).withMembership
    (silenced s.membership))

/-- A command that the comparison of a known mirror passes, and that leaves the station state. -/
structure Passes (c : LaneCommand) (m : KnownMirror) (s : State) : Prop where
  compares : compares s = true
  unloaded : s.work.arrived = false
  known : s.mirror.known = some m
  matched : m.mismatch c = false
  ordinary : syncDigest c = none ∨ s.membership.state = .member
  noMode : isModeSet c = false

/-- A sync point leaves a MEMBER's state (R52). -/
theorem stationCommand_of_member {s : State} {c : LaneCommand} (i : StationNo) (hs : s.membership.state = .member)
    (hm : isModeSet c = false) : stationCommand i false c s = s.withMembership (silenced s.membership) := by
  unfold stationCommand silenced
  simp [hs, hm, endDoubt, State.withMembership_self]

theorem Passes.takeCommand {c : LaneCommand} {m : KnownMirror} {s : State} (h : Passes c m s) (i : StationNo) :
    takeCommand i c (heard (.command i c) s) = commandTaken i c s := by
  have hcompares : Machine.compares (heard (.command i c) s) = true := (compares_congr (by simp)).trans h.compares
  have hknown : (heard (.command i c) s).mirror.known = some m := by rw [heard_mirror]; exact h.known
  have hstate (u : State) (hu : u.membership = s.membership) :
      stationCommand i false c u = u.withMembership (silenced s.membership) := by
    rw [← hu]
    rcases h.ordinary with hd | hm
    · exact stationCommand_of_match i ((compares_congr hu).trans h.compares) hd h.noMode
    · exact stationCommand_of_member i (by rw [hu]; exact hm) h.noMode
  unfold Machine.takeCommand commandTaken
  dsimp only
  rw [mirrorFault_of_match hcompares hknown h.matched, hstate _ (by simp)]

theorem Passes.exec {c : LaneCommand} {m : KnownMirror} {s : State} {i : StationNo} (h : Passes c m s)
    (hr : ReadyToObserve (.command i c) s) : exec (laneStep i c) s = .next (concluded (commandTaken i c s)) := by
  rw [exec_laneStep_taken (takesLane_of_compares h.compares h.unloaded) hr, h.takeCommand i]

/-! ### What the command leaves of each block -/

theorem KeptFields.apply_moveIssuers (k : KeptFields) (t : Timing) (slot : Nat) (i : StationNo) (c : LaneCommand) :
    (k.moveIssuers (.command i c)).apply t slot c =
      { k.apply t slot c with newerIssuer := some i, olderIssuer := k.newerIssuer } := by
  cases c with
  | closeAll check purpose digest => cases purpose <;> rfl
  | _ => rfl

@[simp] theorem noteCommand_known (i : StationNo) (c : LaneCommand) (s : State) :
    (noteCommand i c s).mirror.known = s.mirror.known ∧ (noteCommand i c s).mirror.kept = s.mirror.kept := by
  unfold noteCommand noteWrite noteAttribution
  dsimp only
  (repeat' split) <;> simp [dropFence]

theorem applyMirror_mirror (c : LaneCommand) (s : State) : (applyMirror c s).mirror =
    { s.mirror with
      kept := s.mirror.kept.map fun k => k.apply s.timing s.slot c
      known := s.mirror.known.map fun m => m.apply s.timing s.slot s.lines.quietSample s.lines.readySample c } := rfl

theorem commandTaken_known {s : State} {m : KnownMirror} (i : StationNo) (c : LaneCommand) (h : s.mirror.known = some m) :
    (commandTaken i c s).mirror.known = some (m.apply s.timing s.slot s.lines.quietSample s.lines.readySample c) := by
  simp [commandTaken, applyMirror_mirror, heard_mirror, h]

theorem commandTaken_kept {s : State} {k : KeptFields} (i : StationNo) (c : LaneCommand) (h : s.mirror.kept = some k) :
    (commandTaken i c s).mirror.kept =
      some { k.apply s.timing s.slot c with newerIssuer := some i, olderIssuer := k.newerIssuer } := by
  rw [← KeptFields.apply_moveIssuers]
  simp [commandTaken, applyMirror_mirror, heard_mirror, h]

theorem concluded_known {s : State} {m : KnownMirror} (i : StationNo) (c : LaneCommand) (h : s.mirror.known = some m) :
    (concluded (commandTaken i c s)).mirror.known =
      some (m.apply s.timing s.slot s.lines.quietSample s.lines.readySample c) := by
  simpa using commandTaken_known i c h

theorem concluded_kept {s : State} {k : KeptFields} (i : StationNo) (c : LaneCommand) (h : s.mirror.kept = some k) :
    (concluded (commandTaken i c s)).mirror.kept =
      some { k.apply s.timing s.slot c with newerIssuer := some i, olderIssuer := k.newerIssuer } := by
  simpa using commandTaken_kept i c h

@[simp] theorem commandTaken_frame (i : StationNo) (c : LaneCommand) (s : State) :
    (commandTaken i c s).pending = s.pending ∧ (commandTaken i c s).slot = s.slot ∧ (commandTaken i c s).lines = s.lines ∧
      (commandTaken i c s).loader = s.loader ∧ (commandTaken i c s).membership = silenced s.membership ∧
      (commandTaken i c s).port = s.port ∧ (commandTaken i c s).counters = s.counters ∧
      (commandTaken i c s).faults = s.faults := by
  simp [commandTaken, heard]

theorem commandTaken_queue {s : State} (i : StationNo) (c : LaneCommand) (h : QueueUnjudged s) :
    (commandTaken i c s).queue = s.queue := by
  simp [commandTaken, heard_queue _ h]

@[simp] theorem noteCommand_work (i : StationNo) (c : LaneCommand) (s : State) :
    (noteCommand i c s).work.attributed = s.work.attributed ∧ (noteCommand i c s).work.observed = s.work.observed ∧
      (noteCommand i c s).work.doubted = s.work.doubted ∧ (noteCommand i c s).work.faulted = s.work.faulted := by
  unfold noteCommand noteWrite noteAttribution
  dsimp only
  (repeat' split) <;> simp [dropFence]

@[simp] theorem accountCommand_work (c : LaneCommand) (s : State) :
    (accountCommand c s).work.attributed = s.work.attributed ∧ (accountCommand c s).work.observed = s.work.observed ∧
      (accountCommand c s).work.doubted = s.work.doubted := by
  unfold accountCommand
  (repeat' split) <;> simp

theorem commandTaken_attributed (i : StationNo) (c : LaneCommand) (s : State) :
    (commandTaken i c s).work.attributed = s.work.attributed := by
  simp [commandTaken]

/-- In a calm slot nothing retires and no alert is judged after the command. -/
theorem concluded_commandTaken {s : State} (i : StationNo) (c : LaneCommand) (h : Calm s) :
    concluded (commandTaken i c s) = commandTaken i c s := by
  obtain ⟨hopen, hunjudged, hattributed⟩ := h
  refine concluded_of_calm ?_ ((commandTaken_attributed i c s).trans hattributed)
  unfold QueueOpen
  rwa [commandTaken_queue i c hunjudged]

/-- A command that is no WRITE. -/
def NoWrite (c : LaneCommand) : Prop := ∀ check bank column bursts, c ≠ .write check bank column bursts

theorem noteCommand_noWrite {c : LaneCommand} (i : StationNo) (h : NoWrite c) (s : State) : noteCommand i c s = s := by
  cases c with
  | write check bank column bursts => exact absurd rfl (h check bank column bursts)
  | _ => rfl

theorem commandTaken_noWrite {c : LaneCommand} (i : StationNo) (h : NoWrite c) (s : State) :
    (commandTaken i c s).table = s.table ∧ (commandTaken i c s).dataUnit = s.dataUnit ∧
      (commandTaken i c s).mirror.fence = s.mirror.fence := by
  rw [commandTaken, noteCommand_noWrite i h]
  simp [applyMirror_mirror, heard_mirror]

/-- A command that reaches neither the account nor the duty pointer. -/
def NoAccount (c : LaneCommand) : Prop :=
  (∀ check, c ≠ .refresh check) ∧ (∀ check, c ≠ .sleep check) ∧ ∀ digest, c ≠ .wake digest

theorem accountCommand_noAccount {c : LaneCommand} (h : NoAccount c) (s : State) : accountCommand c s = s := by
  obtain ⟨hrefresh, hsleep, hwake⟩ := h
  cases c with
  | refresh check => exact absurd rfl (hrefresh check)
  | sleep check => exact absurd rfl (hsleep check)
  | wake digest => exact absurd rfl (hwake digest)
  | _ => simp [accountCommand]

/-- The state whose duty pointer follows the command. -/
def commandApplied (i : StationNo) (c : LaneCommand) (s : State) : State :=
  (accountCommand c (applyMirror c (noteCommand i c (heard (.command i c) s)))).withMembership (silenced s.membership)

theorem commandTaken_eq (i : StationNo) (c : LaneCommand) (s : State) :
    commandTaken i c s = followRefresh (commandApplied i c s) := rfl

theorem commandApplied_observed (i : StationNo) (c : LaneCommand) (s : State) :
    (commandApplied i c s).work.observed = some (.command i c) := by
  simp [commandApplied]

theorem commandTaken_noRefresh {c : LaneCommand} (i : StationNo) (h : ∀ check, c ≠ .refresh check) (s : State) :
    commandTaken i c s = commandApplied i c s := by
  rw [commandTaken_eq]
  refine followRefresh_none (observedRefresh_eq_none fun j check => ?_)
  rw [commandApplied_observed]
  simp [h check]

theorem commandTaken_controller {c : LaneCommand} (i : StationNo) (h : NoAccount c) (s : State) :
    (commandTaken i c s).controller = s.controller := by
  have ⟨hrefresh, _, _⟩ := h
  rw [commandTaken_noRefresh i hrefresh, commandApplied, accountCommand_noAccount h]
  simp

/-- What the observation of a passing command that is no WRITE leaves, beside the mirror. -/
theorem concluded_noWrite {c : LaneCommand} (i : StationNo) (h : NoWrite c) (s : State) :
    (concluded (commandTaken i c s)).membership = silenced s.membership ∧
      (concluded (commandTaken i c s)).table = s.table ∧ OuterKept s (concluded (commandTaken i c s)) ∧
      (Calm s → InnerKept s (concluded (commandTaken i c s)) ∧ (concluded (commandTaken i c s)).dataUnit = s.dataUnit) := by
  obtain ⟨htable, hunit, hfence⟩ := commandTaken_noWrite i h s
  refine ⟨by simp, by simp [htable], by simp [OuterKept], fun hcalm => ?_⟩
  have ⟨_, hunjudged, _⟩ := hcalm
  rw [concluded_commandTaken i c hcalm]
  exact ⟨by simp [InnerKept, commandTaken_queue i c hunjudged, hfence], hunit⟩

theorem concluded_noAccount {c : LaneCommand} (i : StationNo) (h : NoAccount c) {s : State} (hcalm : Calm s) :
    (concluded (commandTaken i c s)).controller = s.controller := by
  rw [concluded_commandTaken i c hcalm, commandTaken_controller i h]

/-! ### OPEN and READ (R67, R69) -/

/-- Settles O13: the bank of the command by `KnownMirror.apply`, and the rest as every passing command leaves it. -/
theorem openCommandOpensBank : Obligations.OpenCommandOpensBank := by
  unfold Obligations.OpenCommandOpensBank
  intro s i check bank row m k hcompares harrived hknown hkept hclosed hready
  have hmatch : m.mismatch (.openRow check bank row) = false := by simp [KnownMirror.mismatch, KnownMirror.openRow, hclosed]
  have hpass : Passes (.openRow check bank row) m s := ⟨hcompares, harrived, hknown, hmatch, .inl rfl, rfl⟩
  obtain ⟨hmembership, htable, houter, hcalm⟩ := concluded_noWrite (c := .openRow check bank row) i (by simp [NoWrite]) s
  have happly : m.apply s.timing s.slot s.lines.quietSample s.lines.readySample (.openRow check bank row) =
      (m.withBank bank
        { m.bank bank with
          opened := some ⟨row, s.slot⟩, earliestColumn := s.slot + s.timing.openDelay
          earliestClose := s.slot + s.timing.rowHold }).sampleReady s.lines.readySample := rfl
  refine ⟨_, _, hpass.exec hready, concluded_known i _ hknown, ?_, fun b hb => ?_, ?_, ?_, ?_,
    concluded_kept i _ hkept, hmembership, htable, houter, fun h => ?_⟩
  · rw [happly, KnownMirror.sampleReady_bank, KnownMirror.withBank_bank_same]
  · rw [happly, KnownMirror.sampleReady_bank, KnownMirror.withBank_bank_other _ _ hb]
  · simp [happly]
  · simp [happly]
  · rw [happly, KnownMirror.sampleReady_channel]
    rfl
  · obtain ⟨hinner, hunit⟩ := hcalm h
    exact ⟨hinner, hunit, concluded_noAccount i (by simp [NoAccount]) h⟩

/-- Settles O15: a READ leaves the mirror's banks and holds. -/
theorem readCommandTakesDataLines : Obligations.ReadCommandTakesDataLines := by
  unfold Obligations.ReadCommandTakesDataLines
  intro s i check bank column bursts m k row hcompares harrived hknown hkept hrow hcheck hready
  have hmatch : m.mismatch (.read check bank column bursts) = false := by simp [KnownMirror.mismatch, hrow, hcheck]
  have hpass : Passes (.read check bank column bursts) m s := ⟨hcompares, harrived, hknown, hmatch, .inl rfl, rfl⟩
  obtain ⟨hmembership, htable, houter, hcalm⟩ :=
    concluded_noWrite (c := .read check bank column bursts) i (by simp [NoWrite]) s
  have happly : m.apply s.timing s.slot s.lines.quietSample s.lines.readySample (.read check bank column bursts) =
      m.sampleReady s.lines.readySample := rfl
  refine ⟨_, _, hpass.exec hready, concluded_known i _ hknown, by simp [happly], by simp [happly],
    by simp [happly], ?_, concluded_kept i _ hkept, hmembership, htable, houter, fun h => ?_⟩
  · rw [happly, KnownMirror.sampleReady_channel]
    rfl
  · obtain ⟨hinner, hunit⟩ := hcalm h
    exact ⟨hinner, hunit, concluded_noAccount i (by simp [NoAccount]) h⟩

/-! ### CLOSE_ALL, REFRESH, SLEEP and WAKE (R70 to R72, R147, R148) -/

theorem KnownMirror.bank_mapBanks (m : KnownMirror) (f : BankRecord → BankRecord) (k : BankNo) :
    (m.mapBanks f).bank k = f (m.bank k) := by
  simp [KnownMirror.bank_eq_getElem, KnownMirror.mapBanks]

/-- Settles O17: the banks alike, and the purpose by its four cases. -/
theorem closeAllCommandClosesEveryBank : Obligations.CloseAllCommandClosesEveryBank := by
  unfold Obligations.CloseAllCommandClosesEveryBank
  intro s i check p d m k hstate harrived hknown hkept hcheck hready
  have hcompares : compares s = true := by simp [compares, hstate]
  have hsilenced : silenced s.membership = s.membership := by simp [silenced, hstate]
  have hmatch : m.mismatch (.closeAll check p d) = false := by
    cases p <;> simp [KnownMirror.mismatch] at hcheck ⊢ <;> exact hcheck
  have hpass : Passes (.closeAll check p d) m s := ⟨hcompares, harrived, hknown, hmatch, .inr hstate, rfl⟩
  obtain ⟨hmembership, htable, houter, hcalm⟩ := concluded_noWrite (c := .closeAll check p d) i (by simp [NoWrite]) s
  have happly : m.apply s.timing s.slot s.lines.quietSample s.lines.readySample (.closeAll check p d) =
      ((m.mapBanks (closedRecord s.timing s.slot)).purposeEffect s.lines.quietSample p).sampleReady s.lines.readySample := rfl
  refine ⟨_, _, hpass.exec hready, concluded_known i _ hknown, fun b => ?_, ?_, ?_, fun hp => ?_,
    fun hp => ?_, ?_, hmembership.trans hsilenced, htable, houter, fun h => ?_⟩
  · rw [happly, KnownMirror.sampleReady_bank]
    have hbank := m.bank_mapBanks (closedRecord s.timing s.slot) b
    cases p <;> exact hbank
  · rw [happly]
    cases p <;> simp [KnownMirror.purposeEffect, KnownMirror.mapBanks]
  · rw [happly]
    cases p <;> simp [KnownMirror.purposeEffect, KnownMirror.mapBanks]
  · rw [happly, KnownMirror.sampleReady_channel, hp]
    cases s.lines.readySample <;> simp [KnownMirror.purposeEffect]
  · rw [happly, KnownMirror.sampleReady_channel]
    cases p with
    | init => contradiction
    | _ => rfl
  · have hfields := concluded_kept i (.closeAll check p d) hkept
    cases p <;> exact hfields
  · obtain ⟨hinner, hunit⟩ := hcalm h
    exact ⟨hinner, hunit, concluded_noAccount i (by simp [NoAccount]) h⟩

/-- The next roster number after a station: the least greater one, and where there is none the least (R148). -/
theorem nextInRoster_eq_some_iff {roster : StationSet} {n k : StationNo} : nextInRoster roster n = some k ↔
    inRoster roster k = true ∧
      ((n < k ∧ ∀ j, inRoster roster j = true → n < j → k ≤ j) ∨
        ((∀ j, inRoster roster j = true → j ≤ n) ∧ ∀ j, inRoster roster j = true → k ≤ j)) := by
  unfold nextInRoster
  split
  · next j hfind =>
    obtain ⟨hj, hleast⟩ := find_stationNumbers_eq_some_iff.1 hfind
    simp only [Bool.and_eq_true, decide_eq_true_iff] at hj hleast
    obtain ⟨hgreater, hin⟩ := hj
    constructor
    · rintro ⟨⟩
      exact ⟨hin, .inl ⟨hgreater, fun x hx hn => hleast x ⟨hn, hx⟩⟩⟩
    · rintro ⟨hk, ⟨hn, hbelow⟩ | ⟨hlast, -⟩⟩
      · rw [BitVec.le_antisymm (hleast k ⟨hn, hk⟩) (hbelow j hin hgreater)]
      · exact absurd (hlast j hin) (BitVec.not_le.2 hgreater)
  · next hnone =>
    have hlast (x : StationNo) (hx : inRoster roster x = true) : x ≤ n := by
      have hnot := List.find?_eq_none.1 hnone x (mem_stationNumbers x)
      rw [← BitVec.not_lt]
      intro hlt
      exact hnot (by simp [hlt, hx])
    rw [lowestPresent_eq_some_iff]
    constructor
    · rintro ⟨hk, hleast⟩
      exact ⟨hk, .inr ⟨hlast, hleast⟩⟩
    · rintro ⟨hk, ⟨hn, -⟩ | ⟨-, hleast⟩⟩
      · exact absurd (hlast k hk) (BitVec.not_le.2 hn)
      · exact ⟨hk, hleast⟩

theorem nextInRoster_eq_none_iff {roster : StationSet} {n : StationNo} : nextInRoster roster n = none ↔ roster = 0 := by
  constructor
  · intro h
    unfold nextInRoster at h
    split at h
    · contradiction
    · refine inRoster_ext fun k => ?_
      have hempty := List.find?_eq_none.1 h k (mem_stationNumbers k)
      simpa [inRoster] using hempty
  · rintro rfl
    rw [Option.eq_none_iff_forall_ne_some]
    intro k hk
    obtain ⟨hin, -⟩ := nextInRoster_eq_some_iff.1 hk
    simp [inRoster] at hin

theorem keepsDuty_of_compares {s : State} (h : compares s = true) : keepsDuty s.membership.state = true := by
  unfold compares at h
  cases hs : s.membership.state <;> simp_all [keepsDuty]

theorem silenced_kept (m : Membership) : (silenced m).state = m.state ∧ (silenced m).roster = m.roster := by
  unfold silenced
  split <;> simp

theorem concluded_duty {s : State} (i : StationNo) (check : CheckValue) (h : compares s = true) :
    (concluded (commandTaken i (.refresh check) s)).controller.duty = nextInRoster s.membership.roster i := by
  obtain ⟨hstate, hroster⟩ := silenced_kept s.membership
  have hmembership : (commandApplied i (.refresh check) s).membership = silenced s.membership := rfl
  have hfollow := followRefresh_duty (commandApplied_observed i (.refresh check) s)
    (by rw [hmembership, hstate]; exact keepsDuty_of_compares h)
  rw [hmembership, hroster] at hfollow
  simpa [commandTaken_eq] using hfollow

theorem followRefresh_account (s : State) : (followRefresh s).controller.active = s.controller.active ∧
    (followRefresh s).controller.debt = s.controller.debt ∧ (followRefresh s).controller.counting = s.controller.counting ∧
    (followRefresh s).controller.periodCount = s.controller.periodCount := by
  rw [followRefresh_eq]
  exact ⟨rfl, rfl, rfl, rfl⟩

/-- The account after the command is that of `accountCommand`. -/
theorem concluded_account (i : StationNo) (c : LaneCommand) (s : State) : ∃ u : State, u.controller = s.controller ∧
    (concluded (commandTaken i c s)).controller.debt = (accountCommand c u).controller.debt ∧
    (concluded (commandTaken i c s)).controller.counting = (accountCommand c u).controller.counting ∧
    (concluded (commandTaken i c s)).controller.periodCount = (accountCommand c u).controller.periodCount := by
  obtain ⟨-, hdebt, hcounting, hperiod⟩ := followRefresh_account (commandApplied i c s)
  refine ⟨applyMirror c (noteCommand i c (heard (.command i c) s)), by simp, ?_⟩
  simp only [concluded_controller, commandTaken_eq, hdebt, hcounting, hperiod]
  exact ⟨rfl, rfl, rfl⟩

/-- Settles O18: the mirror and the account by the command, and the pointer by `nextInRoster`. -/
theorem refreshCommandServesAccount : Obligations.RefreshCommandServesAccount := by
  unfold Obligations.RefreshCommandServesAccount
  refine ⟨fun s i check m k hcompares harrived hknown hkept hcheck hready => ?_, fun roster n =>
    ⟨fun k => rfl, nextInRoster_eq_none_iff, fun k => nextInRoster_eq_some_iff⟩⟩
  have hmatch : m.mismatch (.refresh check) = false := by simp [KnownMirror.mismatch, hcheck]
  have hpass : Passes (.refresh check) m s := ⟨hcompares, harrived, hknown, hmatch, .inl rfl, rfl⟩
  obtain ⟨hmembership, htable, houter, hcalm⟩ := concluded_noWrite (c := .refresh check) i (by simp [NoWrite]) s
  obtain ⟨u, hu, hdebt, hcounting, hperiod⟩ := concluded_account i (.refresh check) s
  have happly : m.apply s.timing s.slot s.lines.quietSample s.lines.readySample (.refresh check) =
      ({ m with refreshHold := false } : KnownMirror).sampleReady s.lines.readySample := rfl
  refine ⟨_, _, hpass.exec hready, concluded_known i _ hknown, by simp [happly], by simp [happly], by simp [happly], ?_,
    concluded_kept i _ hkept, ?_, concluded_duty i check hcompares, ?_, ?_, hmembership, htable, houter, hcalm⟩
  · rw [happly, KnownMirror.sampleReady_channel]
    rfl
  · rw [hdebt]
    cases hactive : s.controller.active <;> simp [accountCommand, hu, hactive]
  · rw [hperiod]
    cases hactive : s.controller.active <;> simp [accountCommand, hu, hactive]
  · rw [hcounting]
    cases hactive : s.controller.active <;> simp [accountCommand, hu, hactive]

/-- Settles O19: SLEEP and WAKE at the mirror, and the account stopped and started again. -/
theorem sleepAndWakeCommands : Obligations.SleepAndWakeCommands := by
  unfold Obligations.SleepAndWakeCommands
  refine ⟨fun s i check m k hstate harrived hknown hkept hcheck hready => ?_,
    fun s i d m k hstate harrived hknown hkept hready => ?_⟩
  all_goals
    have hcompares : compares s = true := by simp [compares, hstate]
    have hsilenced : silenced s.membership = s.membership := by simp [silenced, hstate]
  · have hmatch : m.mismatch (.sleep check) = false := by simp [KnownMirror.mismatch, hcheck]
    have hpass : Passes (.sleep check) m s := ⟨hcompares, harrived, hknown, hmatch, .inl rfl, rfl⟩
    obtain ⟨hmembership, htable, houter, hcalm⟩ := concluded_noWrite (c := .sleep check) i (by simp [NoWrite]) s
    obtain ⟨u, hu, hdebt, hcounting, hperiod⟩ := concluded_account i (.sleep check) s
    refine ⟨_, hpass.exec hready, concluded_known i _ hknown, concluded_kept i _ hkept, fun hactive => ?_,
      hmembership.trans hsilenced, htable, houter, hcalm⟩
    rw [hdebt, hcounting, hperiod]
    simp [accountCommand, hu, hactive]
  · have hpass : Passes (.wake d) m s := ⟨hcompares, harrived, hknown, rfl, .inr hstate, rfl⟩
    obtain ⟨hmembership, htable, houter, hcalm⟩ := concluded_noWrite (c := .wake d) i (by simp [NoWrite]) s
    obtain ⟨u, hu, hdebt, hcounting, hperiod⟩ := concluded_account i (.wake d) s
    have hbank (b : BankNo) := m.bank_mapBanks (fun b => { b with opened := none, earliestOpen := min b.earliestOpen s.slot }) b
    refine ⟨_, _, hpass.exec hready, concluded_known i _ hknown, rfl, fun b => ?_, rfl, rfl, concluded_kept i _ hkept,
      fun hactive => ?_, hmembership.trans hsilenced, htable, houter, hcalm⟩
    · have happlied : (m.apply s.timing s.slot s.lines.quietSample s.lines.readySample (.wake d)).bank b =
          { m.bank b with opened := none, earliestOpen := min (m.bank b).earliestOpen s.slot } := hbank b
      rw [happlied]
      exact ⟨rfl, Nat.min_le_right _ _⟩
    · rw [hdebt, hcounting, hperiod]
      simp [accountCommand, hu, hactive]

end Sys2Proof.Machine
end

section
/-! PROOFS. The observed WRITE, and every command at a doubted mirror (O16). -/

namespace Sys2Proof.Machine

/-! ### What a WRITE does to the table, the records and the fence (R163, R166, R172, R182) -/

theorem matchesAlerted_iff {w : Option AlertedWrite} {i : StationNo} {check : CheckValue} {bank : BankNo} {column : ColumnNo}
    {bursts : BurstCount} :
    matchesAlerted w i check bank column bursts = true ↔ ∃ l, w = some ⟨i, bank, check, column, bursts, l⟩ := by
  cases w with
  | none => simp [matchesAlerted]
  | some w =>
    obtain ⟨issuer, bank', row, column', bursts', limit⟩ := w
    simp [matchesAlerted, and_assoc]

/-- A fence stands for a write of an issuer. -/
def FenceOf (f : WriteFence) (i : StationNo) (check : CheckValue) (bank : BankNo) (column : ColumnNo) (bursts : BurstCount) :
    Prop :=
  f.issuer = i ∧ f.bank = bank ∧ f.row = check ∧ f.column = column ∧ f.bursts = bursts

theorem matchesFence_iff {f : WriteFence} {i : StationNo} {check : CheckValue} {bank : BankNo} {column : ColumnNo}
    {bursts : BurstCount} :
    matchesFence (some f) i check bank column bursts = true ↔ FenceOf f i check bank column bursts := by
  simp [matchesFence, FenceOf, and_assoc]

section

variable (i : StationNo) (check : CheckValue) (bank : BankNo) (column : ColumnNo) (bursts : BurstCount) (s : State)

/-- The table and the records after a WRITE, before its fence. -/
def writeNoted : State :=
  noteAttribution i check bank column bursts
    (s.withTable (s.table.observeWrite s.timing.writeLatency s.slot (mirrorRow s bank) check bank column bursts))

theorem noteWrite_eq : noteWrite i check bank column bursts s =
    if matchesFence s.mirror.fence i check bank column bursts then dropFence (writeNoted i check bank column bursts s)
    else writeNoted i check bank column bursts s := rfl

theorem noteWrite_table : (noteWrite i check bank column bursts s).table =
    s.table.observeWrite s.timing.writeLatency s.slot (mirrorRow s bank) check bank column bursts := by
  rw [noteWrite_eq]
  split <;> rfl

/-- The record of the command at the Data Unit. -/
def writeRecord : Attribution where
  slot := s.slot
  issuer := i
  bank := bank
  column := column
  bursts := bursts
  row := check
  retried := matchesAlerted s.dataUnit.lastAlerted i check bank column bursts

theorem noteWrite_records :
    (noteWrite i check bank column bursts s).dataUnit.attribution = some (writeRecord i check bank column bursts s) ∧
      (noteWrite i check bank column bursts s).dataUnit.lastAlerted =
        if (writeRecord i check bank column bursts s).retried then none else s.dataUnit.lastAlerted := by
  rw [noteWrite_eq]
  split <;> exact ⟨rfl, rfl⟩

theorem noteWrite_fence_matched (h : matchesFence s.mirror.fence i check bank column bursts = true) :
    (noteWrite i check bank column bursts s).mirror.fence = none ∧
      (noteWrite i check bank column bursts s).dataUnit.fencedEntry = none := by
  rw [noteWrite_eq, if_pos h]
  exact ⟨rfl, rfl⟩

theorem noteWrite_fence_other (h : matchesFence s.mirror.fence i check bank column bursts = false) :
    (noteWrite i check bank column bursts s).mirror.fence = s.mirror.fence ∧
      (noteWrite i check bank column bursts s).dataUnit.fencedEntry = s.dataUnit.fencedEntry := by
  rw [noteWrite_eq, h]
  exact ⟨rfl, rfl⟩

end

theorem rowCheck_injective {a b : RowNo} : rowCheck a = rowCheck b ↔ a = b := by
  unfold rowCheck
  constructor
  · intro h
    bv_omega
  · rintro rfl
    rfl

theorem coversReservation_iff {row : RowNo} {bank : BankNo} {column : ColumnNo} {bursts : BurstCount} {r : Reservation} :
    coversReservation (some row) (rowCheck row) bank column bursts r = true ↔
      r.bank = bank ∧ r.row = row ∧ column.toNat ≤ r.column.toNat ∧ r.column.toNat < column.toNat + bursts.toNat := by
  simp [coversReservation, rowCheck_injective, eq_comm (a := row)]
  tauto

/-! ### The records go on in every state (R163, R172) -/

/-- The last write record and the alert's records stand. -/
def RecordsKept (s t : State) : Prop :=
  t.table.lastWrite = s.table.lastWrite ∧ t.dataUnit.attribution = s.dataUnit.attribution ∧
    t.dataUnit.lastAlerted = s.dataUnit.lastAlerted

theorem RecordsKept.refl {s : State} : RecordsKept s s := ⟨rfl, rfl, rfl⟩

theorem RecordsKept.trans {s u t : State} (h : RecordsKept s u) (h' : RecordsKept u t) : RecordsKept s t := by
  obtain ⟨hwrite, hattribution, halerted⟩ := h
  obtain ⟨hwrite', hattribution', halerted'⟩ := h'
  exact ⟨hwrite'.trans hwrite, hattribution'.trans hattribution, halerted'.trans halerted⟩

theorem RecordsKept.of_eq {s t : State} (htable : t.table = s.table) (hunit : t.dataUnit = s.dataUnit) : RecordsKept s t := by
  rw [RecordsKept, htable, hunit]
  exact ⟨rfl, rfl, rfl⟩

theorem retireDone_records (closing : Bool) (s : State) : RecordsKept s (retireDone closing s) := .of_eq (by simp) (by simp)

theorem concluded_records (s : State) : RecordsKept s (concluded s) := .of_eq (by simp) (by simp)

theorem followRefresh_records (s : State) : RecordsKept s (followRefresh s) := .of_eq (by simp) (by simp)

theorem clearFenceOf_records (tag : Tag) (s : State) : RecordsKept s (clearFenceOf tag s) := by
  unfold clearFenceOf clearOwnFence
  dsimp only
  (repeat' split) <;> exact ⟨rfl, rfl, rfl⟩

theorem loseWriteRetries_records (s : State) : RecordsKept s (loseWriteRetries s) := by
  unfold loseWriteRetries
  generalize s.queue.filter Entry.isWriteRetry = es
  induction es generalizing s with
  | nil => exact .refl
  | cons e rest ih =>
    have hone : RecordsKept s (loseWriteRetry e s) :=
      (RecordsKept.of_eq (t := failWrite e.tag s) (by simp) (by simp)).trans (clearFenceOf_records e.tag _)
    exact hone.trans (ih _)

theorem loseTrust_records (s : State) : RecordsKept s (loseTrust s) := by
  rw [loseTrust_eq]
  have hemptied : RecordsKept s (withdrawVote (emptyTable (doubtMirror (countTrust s)))) := ⟨rfl, rfl, rfl⟩
  exact (hemptied.trans (loseWriteRetries_records _)).trans (retireDone_records false _)

theorem takeDoubt_records (s : State) : RecordsKept s (takeDoubt s) := by
  unfold takeDoubt
  split
  case h_1 => exact loseTrust_records (setState .resync s)
  case h_2 =>
    split
    · exact .refl
    · exact loseTrust_records (s.withMembership { s.membership with leaveDoubt := true })
  all_goals exact ⟨rfl, rfl, rfl⟩

theorem makeKnown_records (c : LaneCommand) (s : State) : RecordsKept s (makeKnown c s) := .of_eq (by simp) (by simp)

theorem endDoubt_records (c : LaneCommand) (s : State) : RecordsKept s (endDoubt c s) := by
  unfold endDoubt
  split
  · split
    · exact makeKnown_records c s
    · split
      · exact makeKnown_records c (s.withMembership { s.membership with leaveDoubt := false })
      · exact .refl
    · exact .refl
  · exact .refl

theorem enterDraining_records (target : DrainTarget) (s : State) : RecordsKept s (enterDraining target s) := by
  rw [enterDraining_eq]
  have hdrained : RecordsKept s (drained target s) := by
    have hentries : RecordsKept s (drainEntries s) := .of_eq (by simp) (by simp)
    exact hentries.trans ⟨rfl, rfl, rfl⟩
  exact hdrained.trans (retireDone_records false _)

theorem withdrawByDrain_records (s : State) : RecordsKept s (withdrawByDrain s) := by
  unfold withdrawByDrain
  split
  · exact .refl
  · exact .refl
  · exact enterDraining_records .withdrawn s

theorem leaveChannel_records (st : StationState) (s : State) : RecordsKept s (leaveChannel st s) := by
  have hstopped : RecordsKept s (stopAccount s) := .of_eq (by simp) (by simp)
  exact hstopped.trans ⟨rfl, rfl, rfl⟩

theorem enterListening_records (s : State) : RecordsKept s (enterListening s) :=
  (leaveChannel_records .listening s).trans (followRefresh_records (((leaveChannel .listening s).withMembership
    { (leaveChannel .listening s).membership with silence := 0 }).withWork
      { (leaveChannel .listening s).work with silenceSettled := true }))

theorem listenSync_records (i : StationNo) (c : LaneCommand) (d : Digest) (s : State) :
    RecordsKept s (listenSync i c d s) := by
  unfold listenSync
  dsimp only
  split
  · split
    · exact makeKnown_records c s
    · exact makeKnown_records c s
  · exact withdrawByDrain_records (recordFault .configMismatch (stationDetail i) s)

/-- A LISTENING station whose silence a command has ended, its mirror doubted by a mismatch or a MODE_SET (R45, R47). -/
def silenceEnded (fault : Bool) (c : LaneCommand) (s : State) : State :=
  if fault || isModeSet c then doubtMirror (s.withMembership { s.membership with silence := 0 })
  else s.withMembership { s.membership with silence := 0 }

theorem listenCommand_ordinary {c : LaneCommand} (i : StationNo) (fault : Bool) (h : syncDigest c = none) (s : State) :
    listenCommand i fault c s = silenceEnded fault c s := by
  unfold listenCommand
  dsimp only
  rw [h]
  rfl

theorem listenCommand_sync {c : LaneCommand} {d : Digest} (i : StationNo) (fault : Bool) (h : syncDigest c = some d)
    (s : State) : listenCommand i fault c s = listenSync i c d (silenceEnded fault c s) := by
  unfold listenCommand
  dsimp only
  rw [h]
  rfl

theorem silenceEnded_records (fault : Bool) (c : LaneCommand) (s : State) : RecordsKept s (silenceEnded fault c s) := by
  unfold silenceEnded
  split <;> exact .refl

theorem listenCommand_records (i : StationNo) (fault : Bool) (c : LaneCommand) (s : State) :
    RecordsKept s (listenCommand i fault c s) := by
  cases h : syncDigest c with
  | none =>
    rw [listenCommand_ordinary i fault h]
    exact silenceEnded_records fault c s
  | some d =>
    rw [listenCommand_sync i fault h]
    exact (silenceEnded_records fault c s).trans (listenSync_records i c d _)

theorem initializeCommand_records (i : StationNo) (c : LaneCommand) (s : State) :
    RecordsKept s (initializeCommand i c s) := by
  unfold initializeCommand
  split
  · have hknown : RecordsKept s (if isSync c then makeKnown c s else s) := by
      split
      · exact makeKnown_records c s
      · exact .refl
    refine hknown.trans ?_
    unfold advanceInit
    (repeat' split) <;> exact .refl
  · exact enterListening_records s

theorem stationCommand_records (i : StationNo) (fault : Bool) (c : LaneCommand) (s : State) :
    RecordsKept s (stationCommand i fault c s) := by
  have hdoubts (u : State) : RecordsKept u (endDoubt c (if isModeSet c then takeDoubt u else u)) := by
    refine RecordsKept.trans ?_ (endDoubt_records c _)
    split
    · exact takeDoubt_records u
    · exact .refl
  have hfaults : RecordsKept s (if fault then takeDoubt (recordFault .mirrorFault (stationDetail i) s) else s) := by
    split
    · exact takeDoubt_records (recordFault .mirrorFault (stationDetail i) s)
    · exact .refl
  unfold stationCommand
  split
  case h_1 => exact listenCommand_records i fault c s
  case h_2 => exact initializeCommand_records i c s
  case h_3 | h_4 | h_5 => exact hfaults.trans (hdoubts _)
  all_goals exact .refl

/-- The records after a command are those that its note has left. -/
theorem takeCommand_records (i : StationNo) (c : LaneCommand) (s : State) :
    RecordsKept (noteCommand i c s) (takeCommand i c s) := by
  have happlied : RecordsKept (noteCommand i c s) (accountCommand c (applyMirror c (noteCommand i c s))) :=
    .of_eq (by simp) (by simp)
  exact (happlied.trans (stationCommand_records i _ c _)).trans (followRefresh_records _)

/-! ### A doubted mirror (R65) -/

/-- A station whose mirror is doubted whatever is observed, but for a sync point. -/
def Doubting (s : State) : Prop :=
  s.membership.state ∈ [StationState.resync, .draining, .detached, .withdrawn] ∨
    (s.membership.state = .leaving ∧ s.membership.leaveDoubt = true)

theorem Doubting.takesLane {s : State} (h : Doubting s) (ha : s.work.arrived = false) : takesLane s = true := by
  unfold Machine.takesLane
  rcases h with h | ⟨h, -⟩
  · simp only [List.mem_cons, List.not_mem_nil, or_false] at h
    rcases h with h | h | h | h <;> simp [h, ha]
  · simp [h, ha]

theorem Doubting.noFault {s : State} (h : Doubting s) (hd : s.work.doubted = none) (c : LaneCommand) :
    mirrorFault c s = false := by
  have hnone : comparedMirror s = none := by
    unfold comparedMirror compares recordsDoubt
    rcases h with h | ⟨h, hdoubt⟩
    · simp only [List.mem_cons, List.not_mem_nil, or_false] at h
      rcases h with h | h | h | h <;> simp [h, hd]
    · simp [h, hdoubt, hd]
  simp [mirrorFault, hnone]

theorem Doubting.stationCommand {s : State} (h : Doubting s) (i : StationNo) {c : LaneCommand}
    (hc : syncDigest c = none ∨ s.membership.state ∈ [StationState.draining, .detached, .withdrawn]) :
    stationCommand i false c s = s := by
  unfold Machine.stationCommand
  rcases h with h | ⟨h, hdoubt⟩
  · simp only [List.mem_cons, List.not_mem_nil, or_false] at h hc
    rcases h with h | h | h | h
    · have hsync : syncDigest c = none := hc.resolve_right (by simp [h])
      simp [h, takeDoubt, endDoubt, isSync, hsync]
    all_goals simp [h]
  · have hsync : syncDigest c = none := hc.resolve_right (by simp [h])
    simp [h, hdoubt, takeDoubt, endDoubt, isSync, hsync]

theorem mirrorRow_eq (s : State) (bank : BankNo) : mirrorRow s bank = s.mirror.known.bind fun m => m.openRow bank := by
  unfold mirrorRow
  cases s.mirror.known <;> rfl

/-- The hearing of a command leaves what its note reads. -/
theorem heard_noted (o : Observed) (s : State) : (heard o s).mirror.known = s.mirror.known ∧
    (heard o s).mirror.fence = s.mirror.fence ∧ (heard o s).work.doubted = s.work.doubted := by
  rw [heard_mirror]
  exact ⟨rfl, rfl, by simp [heard, markObserved]⟩

theorem mirrorRow_heard (o : Observed) (s : State) (bank : BankNo) : mirrorRow (heard o s) bank = mirrorRow s bank := by
  obtain ⟨hknown, -, -⟩ := heard_noted o s
  rw [mirrorRow_eq, mirrorRow_eq, hknown]

section

variable (i : StationNo) (check : CheckValue) (bank : BankNo) (column : ColumnNo) (bursts : BurstCount)

theorem writeRecord_heard (o : Observed) (s : State) :
    writeRecord i check bank column bursts (heard o s) = writeRecord i check bank column bursts s := by
  simp [writeRecord]

/-- What the note of a WRITE makes of the two records, from the state before the observation. -/
theorem noted_records (o : Observed) (s : State) :
    (noteWrite i check bank column bursts (heard o s)).table =
        s.table.observeWrite s.timing.writeLatency s.slot (mirrorRow s bank) check bank column bursts ∧
      (noteWrite i check bank column bursts (heard o s)).dataUnit.attribution =
        some (writeRecord i check bank column bursts s) ∧
      (noteWrite i check bank column bursts (heard o s)).dataUnit.lastAlerted =
        if (writeRecord i check bank column bursts s).retried then none else s.dataUnit.lastAlerted := by
  obtain ⟨hnoted, hlast⟩ := noteWrite_records i check bank column bursts (heard o s)
  rw [noteWrite_table, mirrorRow_heard, hnoted, hlast, writeRecord_heard]
  simp

/-- A passing WRITE leaves the table, the Data Unit and the fence as its note has them. -/
theorem commandTaken_write (s : State) :
    (commandTaken i (.write check bank column bursts) s).table =
        (noteWrite i check bank column bursts (heard (.command i (.write check bank column bursts)) s)).table ∧
      (commandTaken i (.write check bank column bursts) s).dataUnit =
        (noteWrite i check bank column bursts (heard (.command i (.write check bank column bursts)) s)).dataUnit ∧
      (commandTaken i (.write check bank column bursts) s).mirror.fence =
        (noteWrite i check bank column bursts (heard (.command i (.write check bank column bursts)) s)).mirror.fence := by
  simp [commandTaken, applyMirror_mirror, noteCommand]

end

/-- Settles O16: the WRITE at a known mirror, its records in every state, and the kept fields at a doubted mirror. -/
theorem writeCommandMovesRecords : Obligations.WriteCommandMovesRecords := by
  unfold Obligations.WriteCommandMovesRecords
  refine ⟨fun s i check bank column bursts m k o hcompares harrived hknown hkept hopen hcheck hready => ?_,
    fun s i check bank column bursts hlane hready => ?_, fun s i c k hdoubt harrived hnone hknown hkept hc hready => ?_⟩
  · have hrow : m.openRow bank = some o.row := by simp [KnownMirror.openRow, hopen]
    have hmatch : m.mismatch (.write check bank column bursts) = false := by simp [KnownMirror.mismatch, hrow, hcheck]
    have hpass : Passes (.write check bank column bursts) m s := ⟨hcompares, harrived, hknown, hmatch, .inl rfl, rfl⟩
    have happly : m.apply s.timing s.slot s.lines.quietSample s.lines.readySample (.write check bank column bursts) =
        (m.withBank bank (writtenRecord s.timing s.slot bursts.toNat (m.bank bank))).sampleReady s.lines.readySample := rfl
    have hmirrorRow : mirrorRow s bank = some o.row := by rw [mirrorRow_eq, hknown]; exact hrow
    obtain ⟨htable, hunit, hfence⟩ := commandTaken_write i check bank column bursts s
    obtain ⟨hnoted, hattribution, halerted⟩ :=
      noted_records i check bank column bursts (.command i (.write check bank column bursts)) s
    obtain ⟨-, hheardFence, -⟩ := heard_noted (.command i (.write check bank column bursts)) s
    rw [hnoted, hmirrorRow] at htable
    refine ⟨_, _, hpass.exec hready, concluded_known i _ hknown, ?_, fun b hb => ?_, ?_, ?_, ?_, concluded_kept i _ hkept,
      fun r => ?_, ?_, ⟨_, by simpa [hunit] using hattribution, rfl, rfl, rfl, rfl, rfl, rfl, matchesAlerted_iff,
        by simpa [hunit] using halerted⟩, fun f hf => ⟨fun hown => ?_, fun hother => ?_⟩, by simp, by simp [OuterKept],
      fun hcalm => ?_⟩
    · rw [happly, KnownMirror.sampleReady_bank, KnownMirror.withBank_bank_same]
      simp [writtenRecord, hopen]
    · rw [happly, KnownMirror.sampleReady_bank, KnownMirror.withBank_bank_other _ _ hb]
    · simp [happly]
    · simp [happly]
    · rw [happly, KnownMirror.sampleReady_channel]
      rfl
    · subst hcheck
      simp only [concluded_frame, htable, ReservationTable.observeWrite, List.mem_filter, Bool.not_eq_true',
        ← Bool.not_eq_true, coversReservation_iff]
    · subst hcheck
      simp [htable, ReservationTable.observeWrite]
    · obtain ⟨hgone, hentry⟩ := noteWrite_fence_matched i check bank column bursts
        (heard (.command i (.write check bank column bursts)) s) (by rw [hheardFence, hf]; exact matchesFence_iff.2 hown)
      exact ⟨by simpa [hfence] using hgone, by simpa [hunit] using hentry⟩
    · obtain ⟨hstays, hentry⟩ := noteWrite_fence_other i check bank column bursts
        (heard (.command i (.write check bank column bursts)) s)
        (by rw [hheardFence, hf, ← Bool.not_eq_true, matchesFence_iff]; exact hother)
      refine ⟨?_, by simpa [hunit] using hentry⟩
      rw [← hf, ← hheardFence, ← hstays, ← hfence]
      simp
    · have ⟨_, hunjudged, _⟩ := hcalm
      rw [concluded_commandTaken i _ hcalm]
      refine ⟨commandTaken_queue i _ hunjudged, by simp, by simp, by simp, commandTaken_controller i (by simp [NoAccount]) s,
        fun hf => ?_⟩
      obtain ⟨hstays, -⟩ := noteWrite_fence_other i check bank column bursts
        (heard (.command i (.write check bank column bursts)) s) (by rw [hheardFence, hf]; rfl)
      rw [hfence, hstays, hheardFence, hf]
  · obtain ⟨hwrite, hattribution, halerted⟩ := (takeCommand_records i (.write check bank column bursts)
      (heard (.command i (.write check bank column bursts)) s)).trans (concluded_records _)
    obtain ⟨htable, hnoted, hlast⟩ :=
      noted_records i check bank column bursts (.command i (.write check bank column bursts)) s
    refine ⟨_, exec_laneStep_taken hlane hready, ?_, _, hattribution.trans hnoted, rfl, rfl, rfl, rfl, rfl, rfl,
      matchesAlerted_iff, halerted.trans hlast⟩
    rw [hwrite, noteCommand, htable, mirrorRow_eq]
    cases s.mirror.known.bind fun m => m.openRow bank <;> rfl
  · have hmembership := heard_membership (.command i c) s
    have hheard : Doubting (heard (.command i c) s) := by
      rw [Doubting, hmembership]
      exact hdoubt
    obtain ⟨hheardKnown, -, hheardDoubted⟩ := heard_noted (.command i c) s
    have hfault : mirrorFault c (heard (.command i c) s) = false := hheard.noFault (hheardDoubted.trans hnone) c
    have htaken (u : State) (hu : u.membership = s.membership) : stationCommand i false c u = u :=
      Doubting.stationCommand (by rw [Doubting, hu]; exact hdoubt) i (by rw [hu]; exact hc)
    have htake : takeCommand i c (heard (.command i c) s) =
        followRefresh (accountCommand c (applyMirror c (noteCommand i c (heard (.command i c) s)))) := by
      unfold takeCommand
      dsimp only
      rw [hfault, htaken _ (by simp)]
    refine ⟨_, exec_laneStep_taken (Doubting.takesLane hdoubt harrived) hready, ?_⟩
    rw [htake]
    refine ⟨by simp [OuterKept, heard], by simp [applyMirror_mirror, hheardKnown, hknown], by simp, fun hno => ?_,
      k.apply s.timing s.slot c, ?_, ?_⟩
    · rw [noteCommand_noWrite i hno]
      simp
    · rw [← KeptFields.apply_moveIssuers]
      simp [applyMirror_mirror, heard_mirror, hkept]
    · cases c with
      | closeAll check p d => cases p <;> rfl
      | _ => rfl

end Sys2Proof.Machine
end

section
/-! PROOFS. The observed commands that reach the station state: the state a command finds, the loss of trust, MODE_SET, the
sync points and the initialization (O20 to O25). -/

namespace Sys2Proof.Machine

/-! ### The state that a command finds, and the end of its observation -/

/-- The station with a command applied to the mirror, the table, the records and the account, its state not yet moved. -/
def commandNoted (i : StationNo) (c : LaneCommand) (s : State) : State :=
  accountCommand c (applyMirror c (noteCommand i c (heard (.command i c) s)))

/-- The end of a command's observation: the duty pointer, an alert that waits for the state, and what is answered. -/
def finished (u : State) : State := concluded (followRefresh u)

@[simp] theorem finished_frame (u : State) :
    (finished u).pending = u.pending ∧ (finished u).slot = u.slot ∧ (finished u).lines = u.lines ∧
      (finished u).loader = u.loader ∧ (finished u).membership = u.membership ∧ (finished u).mirror = u.mirror ∧
      (finished u).table = u.table ∧ (finished u).dataUnit = u.dataUnit ∧ (finished u).memory = u.memory := by
  simp [finished]

theorem followRefresh_vote (s : State) : (followRefresh s).controller.vote = s.controller.vote ∧
    (followRefresh s).controller.idleCount = s.controller.idleCount := by
  rw [followRefresh_eq]
  exact ⟨rfl, rfl⟩

theorem concluded_work (u : State) : (concluded u).work.accountStarted = (judgeAlerted false u).work.accountStarted := by
  rw [concluded, retireDone_work]

theorem judgeAlerted_counted (closing : Bool) (s : State) :
    (judgeAlerted closing s).counters.resyncs = s.counters.resyncs := by
  unfold judgeAlerted answerAlerted
  (repeat' split) <;> simp [retryWrite, changeEntry]

theorem finished_resyncs (u : State) : (finished u).counters.resyncs = u.counters.resyncs := by
  rw [finished, concluded, retireDone_counters]
  simp [judgeAlerted_counted]

theorem finished_account (u : State) : (finished u).controller.active = u.controller.active ∧
    (finished u).controller.debt = u.controller.debt ∧ (finished u).controller.counting = u.controller.counting ∧
    (finished u).controller.periodCount = u.controller.periodCount ∧ (finished u).controller.vote = u.controller.vote := by
  obtain ⟨hactive, hdebt, hcounting, hperiod⟩ := followRefresh_account u
  obtain ⟨hvote, -⟩ := followRefresh_vote u
  simp [finished, hactive, hdebt, hcounting, hperiod, hvote]

theorem retireDone_idle {closing : Bool} {s : State} (h : s.controller.idleCount = 0) :
    (retireDone closing s).controller.idleCount = 0 := by
  unfold retireDone restartIdle
  dsimp only
  (repeat' split) <;> simp [h]

theorem finished_idle {u : State} (h : u.controller.idleCount = 0) : (finished u).controller.idleCount = 0 := by
  obtain ⟨-, hidle⟩ := followRefresh_vote u
  exact retireDone_idle (by simp [hidle, h])

/-- With no alert to judge, what is answered retires and nothing else happens. -/
theorem finished_of_unattributed {u : State} (h : u.work.attributed = none) :
    finished u = retireDone false (followRefresh u) := by
  rw [finished, concluded, judgeAlerted_none false (by simpa using h)]

theorem finished_faults {u : State} (h : u.work.attributed = none) : (finished u).faults = u.faults := by
  simp [finished_of_unattributed h]

theorem mirrorFault_heard (o : Observed) (c : LaneCommand) (s : State) : mirrorFault c (heard o s) = mirrorFault c s := by
  obtain ⟨hknown, -, hdoubted⟩ := heard_noted o s
  have hfaulted : (heard o s).work.faulted = s.work.faulted := by simp [heard, markObserved]
  have hcompares : compares (heard o s) = compares s := compares_congr (by simp)
  have hrecords : recordsDoubt (heard o s) = recordsDoubt s := by simp [recordsDoubt, hdoubted]
  simp [mirrorFault, comparedMirror, hknown, hdoubted, hfaulted, hcompares, hrecords]

/-- A command at a station that takes the lane. -/
theorem exec_laneStep_station {s : State} {i : StationNo} {c : LaneCommand} (hl : takesLane s = true)
    (hr : ReadyToObserve (.command i c) s) :
    exec (laneStep i c) s = .next (finished (stationCommand i (mirrorFault c s) c (commandNoted i c s))) := by
  rw [exec_laneStep_taken hl hr, takeCommand, mirrorFault_heard]
  rfl

@[simp] theorem commandNoted_frame (i : StationNo) (c : LaneCommand) (s : State) :
    (commandNoted i c s).pending = s.pending ∧ (commandNoted i c s).slot = s.slot ∧ (commandNoted i c s).lines = s.lines ∧
      (commandNoted i c s).loader = s.loader ∧ (commandNoted i c s).membership = s.membership ∧
      (commandNoted i c s).port = s.port ∧ (commandNoted i c s).faults = s.faults ∧
      (commandNoted i c s).counters = s.counters ∧ (commandNoted i c s).settings = s.settings ∧
      (commandNoted i c s).timing = s.timing ∧ (commandNoted i c s).number = s.number := by
  simp [commandNoted, heard]

@[simp] theorem commandNoted_work (i : StationNo) (c : LaneCommand) (s : State) :
    (commandNoted i c s).work.attributed = s.work.attributed ∧ (commandNoted i c s).work.observed = some (.command i c) ∧
      (commandNoted i c s).work.doubted = s.work.doubted := by
  obtain ⟨-, -, hdoubted⟩ := heard_noted (.command i c) s
  simp [commandNoted, hdoubted]

theorem commandNoted_kept (i : StationNo) (c : LaneCommand) (s : State) : (commandNoted i c s).mirror.kept =
    s.mirror.kept.map fun k =>
      { k.apply s.timing s.slot c with newerIssuer := some i, olderIssuer := k.newerIssuer } := by
  simp only [← KeptFields.apply_moveIssuers]
  simp [commandNoted, applyMirror_mirror, heard_mirror, Function.comp_def]

theorem commandNoted_known (i : StationNo) (c : LaneCommand) (s : State) : (commandNoted i c s).mirror.known =
    s.mirror.known.map fun m => m.apply s.timing s.slot s.lines.quietSample s.lines.readySample c := by
  simp [commandNoted, applyMirror_mirror, heard_mirror]

theorem commandNoted_queue (i : StationNo) (c : LaneCommand) (s : State) :
    (commandNoted i c s).queue = (heard (.command i c) s).queue := by
  simp [commandNoted]

theorem commandNoted_memory (i : StationNo) (c : LaneCommand) (s : State) : (commandNoted i c s).memory =
    s.memory.take (fun j => decide (s.loader.straps = some j)) (.command i c) := by
  simp [commandNoted, heard, giveMemory]

/-! ### The loss of trust (R51, R54) -/

/-- A fault record that has only grown: no kind goes, and a first fault stands. -/
def FaultsGrow (a b : FaultRecord) : Prop := (∀ k, FaultStands k a → FaultStands k b) ∧ ∀ p, a.first = some p → b.first = some p

theorem FaultsGrow.refl {a : FaultRecord} : FaultsGrow a a := ⟨fun _ h => h, fun _ h => h⟩

theorem FaultsGrow.trans {a b c : FaultRecord} (h : FaultsGrow a b) (h' : FaultsGrow b c) : FaultsGrow a c := by
  obtain ⟨hkinds, hfirst⟩ := h
  obtain ⟨hkinds', hfirst'⟩ := h'
  exact ⟨fun k hk => hkinds' k (hkinds k hk), fun p hp => hfirst' p (hfirst p hp)⟩

theorem FaultsGrow.recordFault (k : FaultKind) (d : Byte) (s : State) :
    FaultsGrow s.faults (recordFault k d s).faults := by
  refine ⟨fun j hj => hj.add d, fun p hp => ?_⟩
  show s.faults.first.orElse _ = some p
  rw [hp]
  rfl

theorem loseWriteRetries_faults (s : State) : FaultsGrow s.faults (loseWriteRetries s).faults := by
  unfold loseWriteRetries
  generalize s.queue.filter Entry.isWriteRetry = es
  induction es generalizing s with
  | nil => exact .refl
  | cons e rest ih =>
    have hone : (loseWriteRetry e s).faults = (failWrite e.tag s).faults := by simp [loseWriteRetry]
    have hfail : FaultsGrow s.faults (failWrite e.tag s).faults :=
      FaultsGrow.recordFault .writeDataError (tagDetail e.tag) (answerEntry e.tag .dataError s)
    rw [← hone] at hfail
    exact hfail.trans (ih _)

theorem loseTrust_faults (s : State) : FaultsGrow s.faults (loseTrust s).faults := by
  have hgrow := loseWriteRetries_faults (withdrawVote (emptyTable (doubtMirror (countTrust s))))
  have hsame : (withdrawVote (emptyTable (doubtMirror (countTrust s)))).faults = s.faults := rfl
  rw [hsame] at hgrow
  simpa [loseTrust_eq] using hgrow

theorem loseTrust_resyncs (s : State) : (loseTrust s).counters.resyncs =
    if s.work.doubted.isSome then s.counters.resyncs else s.counters.resyncs + 1 := by
  rw [loseTrust_eq, retireDone_counters]
  simp only [loseWriteRetries_frame]
  show (countTrust s).counters.resyncs = _
  unfold countTrust
  cases s.work.doubted <;> rfl

theorem loseTrust_attributed (s : State) : (loseTrust s).work.attributed = s.work.attributed := by
  rw [loseTrust_eq]
  simp only [retireDone_work_fields, loseWriteRetries_frame]
  rfl

/-- With no write that waits for its retry, and nothing answered, a loss of trust leaves queue and faults. -/
theorem loseTrust_quiet {s : State} (hq : QueueOpen s) (hretry : ∀ e ∈ s.queue, e.isWriteRetry = false) :
    (loseTrust s).queue = s.queue ∧ (loseTrust s).faults = s.faults := by
  have hnone : s.queue.filter Entry.isWriteRetry = [] :=
    List.filter_eq_nil_iff.2 fun e he => by simp [hretry e he]
  have hlost : loseWriteRetries (withdrawVote (emptyTable (doubtMirror (countTrust s)))) =
      withdrawVote (emptyTable (doubtMirror (countTrust s))) := by
    have hqueue : (withdrawVote (emptyTable (doubtMirror (countTrust s)))).queue = s.queue := rfl
    rw [loseWriteRetries, hqueue, hnone]
    rfl
  have hopen : QueueOpen (withdrawVote (emptyTable (doubtMirror (countTrust s)))) := hq
  rw [loseTrust_eq, hlost, retireDone_open false hopen]
  exact ⟨rfl, rfl⟩

theorem takeDoubt_member {s : State} (h : s.membership.state = .member) : takeDoubt s = enterResync s := by
  unfold takeDoubt
  rw [h]

theorem takeDoubt_leaving {s : State} (h : s.membership.state = .leaving) (hd : s.membership.leaveDoubt = false) :
    takeDoubt s = setLeaveDoubt s := by
  unfold takeDoubt
  rw [h]
  simp [hd]

/-- What entry to RESYNC and the leave-doubt condition have in common. -/
structure TrustLost (s t : State) : Prop where
  known : t.mirror.known = none
  kept : t.mirror.kept = s.mirror.kept
  reservations : t.table.reservations = []
  vote : t.controller.vote = false
  resyncs : s.work.doubted = none → t.counters.resyncs = s.counters.resyncs + 1
  faults : FaultsGrow s.faults t.faults
  attributed : t.work.attributed = s.work.attributed
  quiet : QueueOpen s → (∀ e ∈ s.queue, e.isWriteRetry = false) → t.queue = s.queue ∧ t.faults = s.faults

theorem loseTrust_lost (s : State) : TrustLost s (loseTrust s) := by
  obtain ⟨hknown, hkept⟩ := loseTrust_mirror s
  refine ⟨hknown, hkept, loseTrust_table s, loseTrust_vote s, fun hnone => ?_, loseTrust_faults s, loseTrust_attributed s,
    loseTrust_quiet⟩
  rw [loseTrust_resyncs, hnone]
  rfl

/-- A change of the membership alone comes before the loss. -/
theorem TrustLost.of_withMembership {s t : State} {m : Membership} (h : TrustLost (s.withMembership m) t) : TrustLost s t :=
  ⟨h.known, h.kept, h.reservations, h.vote, h.resyncs, h.faults, h.attributed, h.quiet⟩

theorem enterResync_lost (s : State) : TrustLost s (enterResync s) := (loseTrust_lost (setState .resync s)).of_withMembership

theorem setLeaveDoubt_lost (s : State) : TrustLost s (setLeaveDoubt s) :=
  (loseTrust_lost (s.withMembership { s.membership with leaveDoubt := true })).of_withMembership

theorem compares_iff {s : State} : compares s = true ↔ s.membership.state = .member ∨ s.membership.state = .listening ∨
    (s.membership.state = .leaving ∧ s.membership.leaveDoubt = false) := by
  unfold compares
  cases hs : s.membership.state <;> simp

/-! ### A command at each station state -/

theorem stationCommand_listening {s : State} (i : StationNo) (fault : Bool) (c : LaneCommand)
    (h : s.membership.state = .listening) : stationCommand i fault c s = listenCommand i fault c s := by
  unfold stationCommand
  rw [h]

theorem stationCommand_initializing {s : State} (i : StationNo) (fault : Bool) (c : LaneCommand)
    (h : s.membership.state = .initializing) : stationCommand i fault c s = initializeCommand i c s := by
  unfold stationCommand
  rw [h]

/-- The doubt that a mismatch or a MODE_SET casts on the mirror of a station that records it. -/
def commandDoubted (i : StationNo) (fault : Bool) (c : LaneCommand) (s : State) : State :=
  if isModeSet c then takeDoubt (if fault then takeDoubt (recordFault .mirrorFault (stationDetail i) s) else s)
  else if fault then takeDoubt (recordFault .mirrorFault (stationDetail i) s) else s

theorem stationCommand_doubting {s : State} (i : StationNo) (fault : Bool) (c : LaneCommand)
    (h : s.membership.state = .member ∨ s.membership.state = .resync ∨ s.membership.state = .leaving) :
    stationCommand i fault c s = endDoubt c (commandDoubted i fault c s) := by
  unfold stationCommand
  rcases h with h | h | h <;> rw [h] <;> rfl

theorem endDoubt_ordinary {c : LaneCommand} (h : syncDigest c = none) (s : State) : endDoubt c s = s := by
  simp [endDoubt, isSync, h]

theorem endDoubt_resync {s : State} {c : LaneCommand} (h : (syncDigest c).isSome = true) (hs : s.membership.state = .resync) :
    endDoubt c s = returnMember (makeKnown c s) := by
  simp [endDoubt, isSync, h, hs]

theorem endDoubt_leaving {s : State} {c : LaneCommand} (h : (syncDigest c).isSome = true) (hs : s.membership.state = .leaving)
    (hd : s.membership.leaveDoubt = true) :
    endDoubt c s = makeKnown c (s.withMembership { s.membership with leaveDoubt := false }) := by
  simp [endDoubt, isSync, h, hs, hd]

/-! ### MODE_SET (R45, R51, R54, R73) -/

theorem mirrorFault_modeSet (item : BitVec 2) (value : BitVec 4) (s : State) : mirrorFault (.modeSet item value) s = false := by
  unfold mirrorFault
  cases comparedMirror s <;> simp [KnownMirror.mismatch]

/-- What the end of the observation leaves of a station that has lost its trust. -/
theorem finished_lost {u v : State} (h : TrustLost u v) :
    (finished v).mirror.known = none ∧ (finished v).mirror.kept = u.mirror.kept ∧ (finished v).table.reservations = [] ∧
      (finished v).controller.vote = false ∧
      (u.work.doubted = none → (finished v).counters.resyncs = u.counters.resyncs + 1) := by
  obtain ⟨-, -, -, -, hvote⟩ := finished_account v
  refine ⟨by simp [h.known], by simp [h.kept], by simp [h.reservations], hvote.trans h.vote, fun hnone => ?_⟩
  rw [finished_resyncs, h.resyncs hnone]

theorem finished_of_calm {u : State} (hq : QueueOpen u) (ha : u.work.attributed = none) : finished u = followRefresh u :=
  concluded_of_calm (u := followRefresh u) (by simpa [QueueOpen] using hq) (by simpa using ha)

theorem commandNoted_calm {s : State} (i : StationNo) (c : LaneCommand) (h : Calm s) :
    (commandNoted i c s).queue = s.queue ∧ QueueOpen (commandNoted i c s) ∧ (commandNoted i c s).work.attributed = none := by
  obtain ⟨hopen, hunjudged, hattributed⟩ := h
  have hqueue : (commandNoted i c s).queue = s.queue := by rw [commandNoted_queue, heard_queue _ hunjudged]
  refine ⟨hqueue, ?_, by simp [hattributed]⟩
  unfold QueueOpen
  rwa [hqueue]

/-- Settles O20: the three states that compare, each with the doubt that the MODE_SET casts. -/
theorem modeSetCommandDoubtsMirror : Obligations.ModeSetCommandDoubtsMirror := by
  unfold Obligations.ModeSetCommandDoubtsMirror
  intro s i item value k hcompares harrived hkept hready
  have hexec := exec_laneStep_station (takesLane_of_compares hcompares harrived) hready
  rw [mirrorFault_modeSet] at hexec
  generalize hu : commandNoted i (.modeSet item value) s = u at hexec
  have hmembership : u.membership = s.membership := by simp [← hu]
  have hfields : u.mirror.kept = some { k with newerIssuer := some i, olderIssuer := k.newerIssuer } := by
    rw [← hu, commandNoted_kept, hkept]
    rfl
  have hdoubted : u.work.doubted = s.work.doubted := by simp [← hu]
  have hcounters : u.counters = s.counters := by simp [← hu]
  have hfaults : u.faults = s.faults := by simp [← hu]
  have houter : OuterKept s u := by simp [OuterKept, ← hu]
  have hcalmQueue (h : Calm s) : u.queue = s.queue ∧ QueueOpen u ∧ u.work.attributed = none := by
    rw [← hu]
    exact commandNoted_calm i _ h
  have hlost {v : State} (hv : TrustLost u v) (hcalm : Calm s) (hretry : ∀ e ∈ s.queue, e.isWriteRetry = false) :
      (finished v).faults = s.faults ∧ (finished v).queue = s.queue := by
    obtain ⟨hqueue, hopen, hnone⟩ := hcalmQueue hcalm
    obtain ⟨hqueue', hfaults'⟩ := hv.quiet hopen (by rwa [hqueue])
    rw [finished_of_calm (by unfold QueueOpen; rwa [hqueue']) (hv.attributed.trans hnone)]
    exact ⟨by simp [hfaults', hfaults], by simp [hqueue', hqueue]⟩
  rcases compares_iff.1 hcompares with hstate | hstate | ⟨hstate, hdoubt⟩
  · have hstation : stationCommand i false (.modeSet item value) u = enterResync u := by
      rw [stationCommand_doubting i false _ (.inl (by rw [hmembership, hstate])), endDoubt_ordinary rfl]
      exact takeDoubt_member (s := u) (by rw [hmembership, hstate])
    rw [hstation] at hexec
    obtain ⟨hknown, hkept', htable, hvote, hresyncs⟩ := finished_lost (enterResync_lost u)
    have hstate' : (finished (enterResync u)).membership = { s.membership with state := .resync } := by
      simp [enterResync_membership, hmembership]
    rw [hdoubted, hcounters] at hresyncs
    exact ⟨_, hexec, hknown, hkept'.trans hfields, fun _ => hstate', fun h => by simp [hstate] at h,
      fun h => by simp [hstate] at h, fun _ => ⟨htable, hvote, hresyncs⟩, fun h => by simp [hstate] at h,
      by simpa [OuterKept] using houter, hlost (enterResync_lost u)⟩
  · have hstation : stationCommand i false (.modeSet item value) u =
        doubtMirror (u.withMembership { u.membership with silence := 0 }) := by
      rw [stationCommand_listening i false _ (by rw [hmembership, hstate]), listenCommand_ordinary i false rfl]
      rfl
    rw [hstation] at hexec
    refine ⟨_, hexec, by simp [doubtMirror], by simpa [doubtMirror] using hfields, fun h => by simp [hstate] at h,
      fun h => by simp [hstate] at h, fun _ => by simp [hmembership], fun h => absurd hstate h, fun _ => ?_,
      by simpa [OuterKept] using houter, fun hcalm _ => ?_⟩
    · rw [finished_resyncs]
      simp [hcounters]
    · obtain ⟨hqueue, hopen, hnone⟩ := hcalmQueue hcalm
      rw [finished_of_calm (by simpa [QueueOpen] using hopen) (by simpa using hnone)]
      simp [hfaults, hqueue]
  · have hstation : stationCommand i false (.modeSet item value) u = setLeaveDoubt u := by
      rw [stationCommand_doubting i false _ (.inr (.inr (by rw [hmembership, hstate]))), endDoubt_ordinary rfl]
      exact takeDoubt_leaving (s := u) (by rw [hmembership, hstate]) (by rw [hmembership, hdoubt])
    rw [hstation] at hexec
    obtain ⟨hknown, hkept', htable, hvote, hresyncs⟩ := finished_lost (setLeaveDoubt_lost u)
    have hstate' : (finished (setLeaveDoubt u)).membership = { s.membership with leaveDoubt := true } := by
      simp [setLeaveDoubt_membership, hmembership]
    rw [hdoubted, hcounters] at hresyncs
    exact ⟨_, hexec, hknown, hkept'.trans hfields, fun h => by simp [hstate] at h, fun _ => hstate',
      fun h => by simp [hstate] at h, fun _ => ⟨htable, hvote, hresyncs⟩, fun h => by simp [hstate] at h,
      by simpa [OuterKept] using houter, hlost (setLeaveDoubt_lost u)⟩

end Sys2Proof.Machine
end

section
/-! PROOFS. Sync points and mirror faults at the stations that record a doubt (O22, O24). -/

namespace Sys2Proof.Machine

/-! ### The mirror that a sync point gives (R74) -/

theorem closedBanks_bank (earliestOpen : Nat) (channel : ChannelState) (refreshHold quietHold : Bool) (b : BankNo) :
    (KnownMirror.mk (closedBanks earliestOpen) channel refreshHold quietHold).bank b = ⟨none, 0, 0, earliestOpen⟩ := by
  simp [KnownMirror.bank_eq_getElem, closedBanks]

section

variable (t : Timing) (slot : Nat) (quiet ready : Bool) (k : KeptFields)

theorem syncMirror_closeAll (check : CheckValue) (p : Purpose) (d : Digest) :
    ∃ m, syncMirror t slot quiet ready k (.closeAll check p d) = some m ∧ m.refreshHold = decide (p = .refresh) ∧
      m.quietHold = (decide (p = .quiet) && quiet) ∧
      (∀ b, (m.bank b).opened = none ∧ (m.bank b).earliestOpen = slot + t.closeDelay) ∧
      (p = .init → m.channel = if ready then .running else .initializing) ∧
      (p ≠ .init → m.channel = if k.sleepSeen then .sleeping else .running) := by
  refine ⟨_, rfl, by simp, by simp, fun b => ?_, fun hp => ?_, fun hp => ?_⟩
  · rw [KnownMirror.sampleReady_bank, closedBanks_bank]
    exact ⟨rfl, rfl⟩
  · rw [KnownMirror.sampleReady_channel]
    simp [hp]
  · rw [KnownMirror.sampleReady_channel]
    cases k.sleepSeen <;> simp [hp]

theorem syncMirror_wake (d : Digest) :
    ∃ m, syncMirror t slot quiet ready k (.wake d) = some m ∧ m.channel = .running ∧ m.refreshHold = false ∧
      m.quietHold = false ∧ ∀ b, (m.bank b).opened = none ∧ (m.bank b).earliestOpen = slot := by
  refine ⟨_, rfl, rfl, rfl, rfl, fun b => ?_⟩
  rw [closedBanks_bank]
  exact ⟨rfl, rfl⟩

end

theorem makeKnown_of_doubted {s : State} {k : KeptFields} (c : LaneCommand) (hknown : s.mirror.known = none)
    (hkept : s.mirror.kept = some k) : (makeKnown c s).mirror.known =
      syncMirror s.timing s.slot s.lines.quietSample s.lines.readySample k c := by
  unfold makeKnown
  rw [hknown, hkept]
  simp

/-- A CLOSE_ALL for another purpose than an initialization leaves what the kept fields say of sleep. -/
theorem KeptFields.apply_sleepSeen (k : KeptFields) (t : Timing) (slot : Nat) (check : CheckValue) {p : Purpose} (d : Digest)
    (hp : p ≠ .init) : (k.apply t slot (.closeAll check p d)).sleepSeen = k.sleepSeen := by
  cases p with
  | init => contradiction
  | _ => rfl

/-- The kept fields that a command of `i` leaves. -/
def keptAfter (i : StationNo) (c : LaneCommand) (s : State) (k : KeptFields) : KeptFields :=
  { k.apply s.timing s.slot c with newerIssuer := some i, olderIssuer := k.newerIssuer }

/-- Settles O24: the mirror is the one that the sync point gives, from the kept fields that it has moved. -/
theorem syncPointEndsDoubt : Obligations.SyncPointEndsDoubt := by
  unfold Obligations.SyncPointEndsDoubt
  intro s i c k hstates harrived hundoubted hknown hkept hsync hready
  have hdoubting : Doubting s := hstates.imp (fun h => by simp [h]) id
  have hexec := exec_laneStep_station (hdoubting.takesLane harrived) hready
  rw [hdoubting.noFault hundoubted] at hexec
  generalize hu : commandNoted i c s = u at hexec
  have hmembership : u.membership = s.membership := by simp [← hu]
  have houter : OuterKept s u := by simp [OuterKept, ← hu]
  have hnone : u.mirror.known = none := by rw [← hu, commandNoted_known, hknown]; rfl
  have hfields : u.mirror.kept = some (keptAfter i c s k) := by rw [← hu, commandNoted_kept, hkept]; rfl
  have hplain : commandDoubted i false c u = u := by
    have hmode : isModeSet c = false := by
      cases c with
      | modeSet item value => simp [syncDigest] at hsync
      | _ => rfl
    unfold commandDoubted
    rw [hmode]
    rfl
  have hclock : u.timing = s.timing ∧ u.slot = s.slot ∧ u.lines = s.lines := by simp [← hu]
  obtain ⟨htiming, hslot, hlines⟩ := hclock
  obtain ⟨v, hstation, hsynced, hv, hmember, hleaving⟩ : ∃ v, stationCommand i false c u = v ∧
      v.mirror.known = syncMirror s.timing s.slot s.lines.quietSample s.lines.readySample (keptAfter i c s k) c ∧
      OuterKept u v ∧
      (s.membership.state = .resync →
        v.membership = { s.membership with state := .member } ∧ v.controller.idleCount = 0) ∧
      (s.membership.state = .leaving → v.membership = { s.membership with leaveDoubt := false }) := by
    rcases hstates with hstate | ⟨hstate, hdoubt⟩
    · refine ⟨returnMember (makeKnown c u), ?_, ?_, by simp [OuterKept], fun _ => ⟨?_, rfl⟩, fun h => by simp [hstate] at h⟩
      · rw [stationCommand_doubting i false c (.inr (.inl (by rw [hmembership, hstate]))), hplain,
          endDoubt_resync hsync (by rw [hmembership, hstate])]
      · simp [makeKnown_of_doubted c hnone hfields, htiming, hslot, hlines]
      · simp [returnMember_membership, hmembership]
    · refine ⟨makeKnown c (u.withMembership { u.membership with leaveDoubt := false }), ?_, ?_, by simp [OuterKept],
        fun h => by simp [hstate] at h, fun _ => by simp [hmembership]⟩
      · rw [stationCommand_doubting i false c (.inr (.inr (by rw [hmembership, hstate]))), hplain,
          endDoubt_leaving hsync (by rw [hmembership, hstate]) (by rw [hmembership, hdoubt])]
      · rw [makeKnown_of_doubted (k := keptAfter i c s k) c (by simpa using hnone) (by simpa using hfields)]
        simp [htiming, hslot, hlines]
  rw [hstation] at hexec
  have houter' : OuterKept s (finished v) := by
    obtain ⟨hpending, hslot', hlines', hloader⟩ := houter
    obtain ⟨hpending', hslot'', hlines'', hloader'⟩ := hv
    simp [OuterKept, *]
  have hmember' (h : s.membership.state = .resync) :
      (finished v).membership = { s.membership with state := .member } ∧ (finished v).controller.idleCount = 0 := by
    obtain ⟨hms, hidle⟩ := hmember h
    exact ⟨by simpa using hms, finished_idle hidle⟩
  have hleaving' (h : s.membership.state = .leaving) :
      (finished v).membership = { s.membership with leaveDoubt := false } := by simpa using hleaving h
  cases c with
  | closeAll check p d =>
    obtain ⟨m, hm, hrefresh, hquiet, hbanks, hinit, hother⟩ :=
      syncMirror_closeAll s.timing s.slot s.lines.quietSample s.lines.readySample
        (keptAfter i (.closeAll check p d) s k) check p d
    refine ⟨finished v, m, hexec, by simp [hsynced, hm], houter', hmember', hleaving', by simp, ?_⟩
    rintro check' p' d' heq
    injection heq with _ hp _
    subst hp
    refine ⟨hrefresh, hquiet, hbanks, hinit, fun hp => (hother hp).trans ?_⟩
    rw [keptAfter, KeptFields.apply_sleepSeen k s.timing s.slot check d hp]
  | wake d =>
    obtain ⟨m, hm, hwake⟩ := syncMirror_wake s.timing s.slot s.lines.quietSample s.lines.readySample
      (keptAfter i (.wake d) s k) d
    exact ⟨finished v, m, hexec, by simp [hsynced, hm], houter', hmember', hleaving', fun _ _ => hwake, by simp⟩
  | _ => simp [syncDigest] at hsync

/-! ### A mirror fault (R45, R51, R54, R77) -/

theorem isModeSet_of_mismatch {m : KnownMirror} {c : LaneCommand} (h : m.mismatch c = true) : isModeSet c = false := by
  cases c with
  | modeSet item value => simp [KnownMirror.mismatch] at h
  | _ => rfl

theorem mirrorFault_of_mismatch {s : State} {m : KnownMirror} {c : LaneCommand} (hcompares : compares s = true)
    (hfaulted : s.work.faulted = false) (hknown : s.mirror.known = some m) (hmismatch : m.mismatch c = true) :
    mirrorFault c s = true := by
  simp [mirrorFault, comparedMirror, hfaulted, hcompares, hknown, hmismatch]

/-- The station with the mirror fault of an issuer recorded. -/
def mirrorFaultNoted (i : StationNo) (s : State) : State := recordFault .mirrorFault (stationDetail i) s

theorem commandDoubted_mismatch {m : KnownMirror} {c : LaneCommand} (i : StationNo) (h : m.mismatch c = true) (s : State) :
    commandDoubted i true c s = takeDoubt (mirrorFaultNoted i s) := by
  unfold commandDoubted
  rw [isModeSet_of_mismatch h]
  rfl

/-- What a mirror fault and the loss of trust after it leave, once the observation is over. -/
structure FaultTaken (i : StationNo) (c : LaneCommand) (s t : State) : Prop where
  reservations : t.table.reservations = []
  vote : t.controller.vote = false
  resyncs : t.counters.resyncs = s.counters.resyncs + 1
  kind : t.faults.kinds &&& FaultKind.mirrorFault.bit = FaultKind.mirrorFault.bit
  first : t.faults.first = some (s.faults.first.getD (.mirrorFault, i.setWidth 8))
  kept : t.mirror.kept = s.mirror.kept.map fun k =>
    { k.apply s.timing s.slot c with newerIssuer := some i, olderIssuer := k.newerIssuer }

/-- A doubted station that goes on by a sync point, or by nothing at all, keeps what the fault has left. -/
theorem FaultTaken.of_lost {s v w : State} {i : StationNo} {c : LaneCommand}
    (h : TrustLost (mirrorFaultNoted i (commandNoted i c s)) v) (hundoubted : s.work.doubted = none)
    (hunattributed : s.work.attributed = none) (htable : w.table = v.table) (hvote : w.controller.vote = v.controller.vote)
    (hcounters : w.counters = v.counters) (hfaults : w.faults = v.faults) (hkept : w.mirror.kept = v.mirror.kept)
    (hattributed : w.work.attributed = v.work.attributed) : FaultTaken i c s (finished w) := by
  have hnoted : FaultNoted .mirrorFault (i.setWidth 8) s.faults (mirrorFaultNoted i (commandNoted i c s)).faults := by
    have hsame : (commandNoted i c s).faults = s.faults := by simp
    rw [← hsame]
    exact faultNoted_recordFault .mirrorFault (i.setWidth 8) (commandNoted i c s)
  obtain ⟨-, hfirst, -⟩ := hnoted
  obtain ⟨hstands, hfirstStands⟩ := h.faults
  have hnone : w.work.attributed = none := by
    rw [hattributed, h.attributed]
    simpa [mirrorFaultNoted] using hunattributed
  obtain ⟨-, -, -, -, hvote'⟩ := finished_account w
  refine ⟨by simp [htable, h.reservations], hvote'.trans (hvote.trans h.vote), ?_, ?_, ?_, ?_⟩
  · rw [finished_resyncs, hcounters, h.resyncs (by simpa [mirrorFaultNoted] using hundoubted)]
    simp [mirrorFaultNoted]
  · rw [finished_faults hnone, hfaults]
    exact hstands _ (faultStands_add .mirrorFault (stationDetail i) (commandNoted i c s).faults)
  · rw [finished_faults hnone, hfaults]
    exact hfirstStands _ hfirst
  · simpa [hkept, h.kept, mirrorFaultNoted] using commandNoted_kept i c s

theorem stationCommand_fault_member {u : State} {m : KnownMirror} {c : LaneCommand} (i : StationNo)
    (hstate : u.membership.state = .member) (hmismatch : m.mismatch c = true) :
    stationCommand i true c u = endDoubt c (enterResync (mirrorFaultNoted i u)) := by
  rw [stationCommand_doubting i true c (.inl hstate), commandDoubted_mismatch i hmismatch]
  exact congrArg (endDoubt c) (takeDoubt_member (s := mirrorFaultNoted i u) hstate)

theorem stationCommand_fault_leaving {u : State} {m : KnownMirror} {c : LaneCommand} (i : StationNo)
    (hstate : u.membership.state = .leaving) (hdoubt : u.membership.leaveDoubt = false) (hmismatch : m.mismatch c = true) :
    stationCommand i true c u = endDoubt c (setLeaveDoubt (mirrorFaultNoted i u)) := by
  rw [stationCommand_doubting i true c (.inr (.inr hstate)), commandDoubted_mismatch i hmismatch]
  exact congrArg (endDoubt c) (takeDoubt_leaving (s := mirrorFaultNoted i u) hstate hdoubt)

/-- The mismatch of a CLOSE_ALL with the count of open banks. -/
theorem closeAll_mismatch {m : KnownMirror} {check : CheckValue} {p : Purpose} (d : Digest) (hp : p = .refresh ∨ p = .quiet)
    (hcheck : check.toNat ≠ m.openCount) : m.mismatch (.closeAll check p d) = true := by
  rcases hp with hp | hp <;> subst hp <;> simp [KnownMirror.mismatch, hcheck]

/-- The doubted station that a CLOSE_ALL finds in its own slot makes the mirror known again. -/
theorem makeKnown_after_loss {i : StationNo} {check : CheckValue} {p : Purpose} {d : Digest} {s v : State} {k : KeptFields}
    (h : TrustLost (mirrorFaultNoted i (commandNoted i (.closeAll check p d) s)) v) (hkept : s.mirror.kept = some k)
    (hp : p ≠ .init) (htiming : v.timing = s.timing) (hslot : v.slot = s.slot) (hlines : v.lines = s.lines) :
    ∃ m', (makeKnown (.closeAll check p d) v).mirror.known = some m' ∧
      (∀ b, (m'.bank b).opened = none ∧ (m'.bank b).earliestOpen = s.slot + s.timing.closeDelay) ∧
      m'.refreshHold = decide (p = .refresh) ∧ m'.quietHold = (decide (p = .quiet) && s.lines.quietSample) ∧
      m'.channel = (if k.sleepSeen then .sleeping else .running) := by
  have hfields : v.mirror.kept = some (keptAfter i (.closeAll check p d) s k) := by
    rw [h.kept]
    show (commandNoted i (.closeAll check p d) s).mirror.kept = _
    rw [commandNoted_kept, hkept]
    rfl
  obtain ⟨m', hm', hrefresh, hquiet, hbanks, -, hchannel⟩ := syncMirror_closeAll s.timing s.slot s.lines.quietSample
    s.lines.readySample (keptAfter i (.closeAll check p d) s k) check p d
  refine ⟨m', ?_, hbanks, hrefresh, hquiet, (hchannel hp).trans ?_⟩
  · rw [makeKnown_of_doubted _ h.known hfields, htiming, hslot, hlines, hm']
  · rw [keptAfter, KeptFields.apply_sleepSeen k s.timing s.slot check d hp]

/-- Settles O22: what the fault leaves is one fact; the station states and the sync point differ in the membership alone. -/
theorem mirrorFaultEntersResync : Obligations.MirrorFaultEntersResync := by
  unfold Obligations.MirrorFaultEntersResync
  refine ⟨fun s i c m hstate harrived hfaulted hundoubted hknown hmismatch hsync hunattributed hready => ?_,
    fun s i c m hstate hdoubt harrived hfaulted hundoubted hknown hmismatch hsync hunattributed hready => ?_,
    fun s i c m hstate harrived hfaulted hknown hmismatch hsync hunattributed hready => ?_,
    fun s i check p d m k hstates harrived hfaulted hundoubted hknown hkept hp hcheck hunattributed hready => ?_⟩
  · have hcompares : compares s = true := compares_iff.2 (.inl hstate)
    have hexec := exec_laneStep_station (takesLane_of_compares hcompares harrived) hready
    rw [mirrorFault_of_mismatch hcompares hfaulted hknown hmismatch,
      stationCommand_fault_member i (by simpa using hstate) hmismatch, endDoubt_ordinary hsync] at hexec
    have hlost := enterResync_lost (mirrorFaultNoted i (commandNoted i c s))
    have htaken := FaultTaken.of_lost hlost hundoubted hunattributed rfl rfl rfl rfl rfl rfl
    exact ⟨_, hexec, by simp [enterResync_membership, mirrorFaultNoted], by simp [hlost.known], htaken.reservations,
      htaken.vote, htaken.resyncs, htaken.kind, htaken.first, htaken.kept, by simp [OuterKept, mirrorFaultNoted],
      by simp [mirrorFaultNoted, commandNoted_memory]⟩
  · have hcompares : compares s = true := compares_iff.2 (.inr (.inr ⟨hstate, hdoubt⟩))
    have hexec := exec_laneStep_station (takesLane_of_compares hcompares harrived) hready
    rw [mirrorFault_of_mismatch hcompares hfaulted hknown hmismatch,
      stationCommand_fault_leaving i (by simpa using hstate) (by simpa using hdoubt) hmismatch,
      endDoubt_ordinary hsync] at hexec
    have hlost := setLeaveDoubt_lost (mirrorFaultNoted i (commandNoted i c s))
    have htaken := FaultTaken.of_lost hlost hundoubted hunattributed rfl rfl rfl rfl rfl rfl
    exact ⟨_, hexec, by simp [setLeaveDoubt_membership, mirrorFaultNoted], by simp [hlost.known], htaken.reservations,
      htaken.resyncs, htaken.kind, htaken.first, by simp [OuterKept, mirrorFaultNoted]⟩
  · have hcompares : compares s = true := compares_iff.2 (.inr (.inl hstate))
    have hexec := exec_laneStep_station (takesLane_of_compares hcompares harrived) hready
    rw [mirrorFault_of_mismatch hcompares hfaulted hknown hmismatch,
      stationCommand_listening i true c (by simpa using hstate), listenCommand_ordinary i true hsync] at hexec
    refine ⟨_, hexec, by simp [silenceEnded], by simp [silenceEnded, doubtMirror], ?_, ?_,
      by simp [silenceEnded, OuterKept]⟩
    · rw [finished_faults (by simp [silenceEnded, hunattributed])]
      simp [silenceEnded]
    · rw [finished_resyncs]
      simp [silenceEnded]
  · have hmismatch := closeAll_mismatch d hp hcheck
    have hinit : p ≠ .init := by rcases hp with hp | hp <;> simp [hp]
    have hcompares : compares s = true := compares_iff.2 (hstates.imp_right .inr)
    have hexec := exec_laneStep_station (takesLane_of_compares hcompares harrived) hready
    rw [mirrorFault_of_mismatch hcompares hfaulted hknown hmismatch] at hexec
    rcases hstates with hstate | ⟨hstate, hdoubt⟩
    · have hlost := enterResync_lost (mirrorFaultNoted i (commandNoted i (.closeAll check p d) s))
      rw [stationCommand_fault_member i (by simpa using hstate) hmismatch,
        endDoubt_resync rfl (by simp [enterResync_membership])] at hexec
      obtain ⟨m', hm', hbanks, hrefresh, hquiet, hchannel⟩ := makeKnown_after_loss hlost hkept hinit
        (by simp [mirrorFaultNoted]) (by simp [mirrorFaultNoted]) (by simp [mirrorFaultNoted])
      have htaken := FaultTaken.of_lost (w := returnMember (makeKnown (.closeAll check p d)
        (enterResync (mirrorFaultNoted i (commandNoted i (.closeAll check p d) s))))) hlost hundoubted hunattributed
        (by simp) (by simp [returnMember]) (by simp) (by simp) (by simp) (by simp [returnMember])
      refine ⟨_, m', hexec, ?_, by simpa using hm', hbanks, hrefresh, hquiet, hchannel, htaken.reservations, htaken.vote,
        htaken.resyncs, fun _ => finished_idle rfl, htaken.kind, htaken.first, by simp [OuterKept, mirrorFaultNoted]⟩
      simp [returnMember_membership, enterResync_membership, mirrorFaultNoted, ← hstate]
    · have hlost := setLeaveDoubt_lost (mirrorFaultNoted i (commandNoted i (.closeAll check p d) s))
      rw [stationCommand_fault_leaving i (by simpa using hstate) (by simpa using hdoubt) hmismatch,
        endDoubt_leaving rfl (by simpa [setLeaveDoubt_membership, mirrorFaultNoted] using hstate)
          (by simp [setLeaveDoubt_membership])] at hexec
      generalize hv : setLeaveDoubt (mirrorFaultNoted i (commandNoted i (.closeAll check p d) s)) = v at hexec hlost
      have hmembership : v.membership = { s.membership with leaveDoubt := true } := by
        simp [← hv, setLeaveDoubt_membership, mirrorFaultNoted]
      have houter : OuterKept s v := by simp [OuterKept, ← hv, mirrorFaultNoted]
      obtain ⟨m', hm', hbanks, hrefresh, hquiet, hchannel⟩ := makeKnown_after_loss
        (v := v.withMembership { v.membership with leaveDoubt := false }) ⟨hlost.known, hlost.kept, hlost.reservations,
          hlost.vote, hlost.resyncs, hlost.faults, hlost.attributed, hlost.quiet⟩ hkept hinit
        (by simp [← hv, mirrorFaultNoted]) (by simp [← hv, mirrorFaultNoted]) (by simp [← hv, mirrorFaultNoted])
      have htaken := FaultTaken.of_lost (w := makeKnown (.closeAll check p d)
        (v.withMembership { v.membership with leaveDoubt := false })) hlost hundoubted hunattributed
        (by simp) (by simp) (by simp) (by simp) (by simp) (by simp)
      refine ⟨_, m', hexec, ?_, by simpa using hm', hbanks, hrefresh, hquiet, hchannel, htaken.reservations, htaken.vote,
        htaken.resyncs, fun h => by simp [hstate] at h, htaken.kind, htaken.first, ?_⟩
      · simp [hmembership, ← hdoubt]
      · obtain ⟨hpending, hslot, hlines, hloader⟩ := houter
        simp [OuterKept, hpending, hslot, hlines, hloader]

end Sys2Proof.Machine
end

section
/-! PROOFS. The ageing of the slot, and the slots of no command and of an undefined one (O21, O26). -/

namespace Sys2Proof.Machine

/-! ### The ageing of an entry (R120 to R122) -/

theorem aged_ageStep (c : Settings) (m : MemFields) : Aged c m (ageStep c m) := by
  unfold Aged ageStep
  by_cases hage : m.age = c.ageMax
  · by_cases hguard : m.guardCount = c.guardMax
    · simp [hage, hguard]
    · by_cases hnext : m.guardCount + 1 = c.guardMax
      · simp [hage, hguard, hnext]
      · simp [hage, hguard, hnext]
  · simp [hage]

theorem servedBy_iff {i : StationNo} {c own : LaneCommand} : servedBy (.command i c) own = true ↔ Served c own := by
  unfold Served
  cases own <;> cases c <;> simp [servedBy]; tauto

section

variable {c : Settings} {o : Observed} {e : Entry} {m : MemFields}

theorem ageEntry_passedOver {own : LaneCommand} (hm : e.mem = some m) (hj : m.judged = some ⟨own, true⟩)
    (howing : e.phase.owing = true) (hserved : servedBy o own = false) :
    ageEntry c o e = { e with mem := some (ageStep c m) } := by
  simp [ageEntry, hm, hj, howing, hserved]

theorem ageEntry_unmoved (hm : e.mem = some m)
    (h : m.judged = none ∨ (∃ own, m.judged = some ⟨own, false⟩) ∨ e.phase.owing = false ∨
      ∃ own, m.judged = some ⟨own, true⟩ ∧ servedBy o own = true) : ageEntry c o e = e := by
  rcases h with h | ⟨own, h⟩ | h | ⟨own, h, hserved⟩
  · simp [ageEntry, hm, h]
  · simp [ageEntry, hm, h]
  · cases hj : m.judged <;> simp [ageEntry, hm, hj, h]
  · simp [ageEntry, hm, h, hserved]

theorem ageEntry_kept (c : Settings) (o : Observed) (e : Entry) : (ageEntry c o e).phase = e.phase ∧
    (ageEntry c o e).order = e.order ∧ (ageEntry c o e).tag = e.tag ∧ (ageEntry c o e).mem.isSome = e.mem.isSome := by
  unfold ageEntry
  split
  · simp
  · next m hm =>
    split
    · simp
    · split <;> simp [hm]

end

theorem heard_queue_map (o : Observed) (s : State) : (heard o s).queue = s.queue.map (ageEntry s.settings o) := by
  simp [heard, ageQueue]

theorem heard_open {s : State} (o : Observed) (h : QueueOpen s) : QueueOpen (heard o s) := by
  intro e he
  rw [heard_queue_map, List.mem_map] at he
  obtain ⟨x, hx, rfl⟩ := he
  obtain ⟨hphase, -, -, hmem⟩ := ageEntry_kept s.settings o x
  rw [hphase, hmem]
  exact h x hx

/-- What the ageing of a slot makes of each entry, by the command observed in it. -/
def AgedBy (o : Observed) (s : State) (q : List Entry) : Prop :=
  q.length = s.queue.length ∧
    ∀ (j : Nat) (e : Entry) (m : MemFields), s.queue[j]? = some e → e.mem = some m →
      (∀ own, m.judged = some ⟨own, true⟩ → e.phase.owing = true → servedBy o own = false →
        ∃ m', q[j]? = some { e with mem := some m' } ∧ Aged s.settings m m') ∧
      (m.judged = none ∨ (∃ own, m.judged = some ⟨own, false⟩) ∨ e.phase.owing = false ∨
          (∃ own, m.judged = some ⟨own, true⟩ ∧ servedBy o own = true) →
        q[j]? = some e)

theorem heard_agedBy (o : Observed) (s : State) : AgedBy o s (heard o s).queue := by
  rw [heard_queue_map]
  refine ⟨by simp, fun j e m hj hm => ⟨fun own hjudged howing hserved => ?_, fun h => ?_⟩⟩
  · exact ⟨ageStep s.settings m, by simp [hj, ageEntry_passedOver hm hjudged howing hserved], aged_ageStep s.settings m⟩
  · simp [hj, ageEntry_unmoved hm h]

/-! ### The empty slot and the undefined command (R47, R66, R140, R194) -/

theorem exec_emptySlot {s : State} (hl : takesLane s = true) (hr : ReadyToObserve .empty s) :
    exec .emptySlot s = .next (concluded (takeEmpty (heard .empty s))) := by
  have hexec : exec .emptySlot s = .next (observeWord 0 .empty s) := rfl
  rw [hexec, observeWord_ready _ hr, observe_of_takesLane _ hl]
  rfl

theorem takeEmpty_open {s : State} (h : QueueOpen s) : QueueOpen (takeEmpty (heard .empty s)) := by
  have hqueue : (takeEmpty (heard .empty s)).queue = (heard .empty s).queue := by simp
  unfold QueueOpen
  rw [hqueue]
  exact heard_open .empty h

/-- In an empty slot with nothing answered and no alert to judge, the entries age and that is all. -/
theorem concluded_takeEmpty {s : State} (hq : QueueOpen s) (ha : s.work.attributed = none) :
    concluded (takeEmpty (heard .empty s)) = takeEmpty (heard .empty s) :=
  concluded_of_calm (takeEmpty_open hq) (by simpa using ha)

/-- Settles O26: the ageing of the slot is the one of the queue heard; what was observed says who is served. -/
theorem passedOverEntryAges : Obligations.PassedOverEntryAges := by
  unfold Obligations.PassedOverEntryAges
  refine ⟨fun s hl hr hq ha => ?_, fun s i c k hstate harrived hknown hmatch hmode hr hq ha => ?_⟩
  · obtain ⟨hlength, haged⟩ := heard_agedBy .empty s
    have hqueue : (takeEmpty (heard .empty s)).queue = (heard .empty s).queue := by simp
    refine ⟨_, exec_emptySlot hl hr, ?_⟩
    rw [concluded_takeEmpty hq ha, hqueue]
    refine ⟨hlength, fun j e m hj hm => ?_⟩
    obtain ⟨hpassed, hsame⟩ := haged j e m hj hm
    have hunserved (own : LaneCommand) : servedBy .empty own = false := by cases own <;> rfl
    exact ⟨fun own hjudged howing => hpassed own hjudged howing (hunserved own),
      fun h => hsame (h.imp_right (Or.imp_right .inl))⟩
  · have hpass : Passes c k s := ⟨compares_iff.2 (.inl hstate), harrived, hknown, hmatch, .inr hstate, hmode⟩
    obtain ⟨hlength, haged⟩ := heard_agedBy (.command i c) s
    have hqueue : (commandTaken i c s).queue = (heard (.command i c) s).queue := by simp [commandTaken]
    have hcalm : concluded (commandTaken i c s) = commandTaken i c s := by
      refine concluded_of_calm ?_ ((commandTaken_attributed i c s).trans ha)
      unfold QueueOpen
      rw [hqueue]
      exact heard_open _ hq
    refine ⟨_, hpass.exec hr, ?_⟩
    rw [hcalm, hqueue]
    refine ⟨hlength, fun j e m hj hm => ?_⟩
    obtain ⟨hpassed, hsame⟩ := haged j e m hj hm
    simp only [← Bool.not_eq_true (servedBy _ _), servedBy_iff] at hpassed hsame
    exact ⟨hpassed, hsame⟩

/-- An undefined command at a station that takes the lane. -/
theorem exec_undefinedCommand {s : State} {i : StationNo} (kind : BitVec 4) (hl : takesLane s = true)
    (hr : ReadyToObserve (.undefined i) s) :
    exec (.undefinedCommand kind i) s = .next (concluded (takeUndefined i (heard (.undefined i) s))) := by
  have hexec : exec (.undefinedCommand kind i) s = .next (observeWord (undefinedWord kind i) (.undefined i) s) := rfl
  rw [hexec, observeWord_ready _ hr, observe_of_takesLane _ hl]
  rfl

theorem takeUndefined_of_settled {s : State} {i : StationNo} (h : s.membership.state ≠ .initializing ∨ i = s.number) :
    takeUndefined i s = s.withMembership (silenced s.membership) := by
  unfold takeUndefined silenced
  cases hs : s.membership.state with
  | initializing => simp [h.resolve_left (by simp [hs]), State.withMembership_self]
  | listening => simp [hs]
  | _ => rfl

theorem takeUndefined_of_initializing {s : State} {i : StationNo} (h : s.membership.state = .initializing)
    (hi : i ≠ s.number) : takeUndefined i s = enterListening s := by
  unfold takeUndefined
  rw [h]
  simp [hi]

theorem leaveChannel_attributed (st : StationState) (s : State) :
    (leaveChannel st s).work.attributed = s.work.attributed := by
  have hstop : (stopAccount s).work.attributed = s.work.attributed := by
    unfold stopAccount expirePeriod
    dsimp only
    (repeat' split) <;> simp
  simpa [leaveChannel, withdrawVote, setDuty, dropFence, doubtMirror, emptyTable] using hstop

theorem enterListening_attributed (s : State) : (enterListening s).work.attributed = s.work.attributed := by
  unfold enterListening
  simp [leaveChannel_attributed]

theorem takeUndefined_kept (i : StationNo) (s : State) : (takeUndefined i s).mirror.kept = s.mirror.kept ∧
    (takeUndefined i s).work.attributed = s.work.attributed := by
  unfold takeUndefined
  (repeat' split) <;> simp [enterListening_mirror, enterListening_attributed]

/-- Settles O21: the empty slot's silence, and the undefined command at an INITIALIZING station and at the others. -/
theorem emptyAndUndefinedCommands : Obligations.EmptyAndUndefinedCommands := by
  unfold Obligations.EmptyAndUndefinedCommands
  refine ⟨fun s hl hr => ?_, fun s kind i hl hr => ?_⟩
  · refine ⟨_, exec_emptySlot hl hr, by simp [heard_mirror],
      by simp [heard_mirror, KeptFields.moveIssuers, observedIssuer], fun hstate hsilence => ?_,
      fun hstate => ?_, ?_, by simp, ?_, fun ⟨hq, ha⟩ => ?_⟩
    · have hunsettled : (heard .empty s).work.silenceSettled = false := by simpa [heard, markObserved] using hsilence
      simp [takeEmpty, hstate, hunsettled, saturatingSucc]
    · simp [takeEmpty, hstate]
    · simp [heard, giveMemory, ChannelMemory.take]
    · simp [OuterKept, heard]
    · rw [concluded_takeEmpty hq ha]
      simp only [takeEmpty_frame, heard_frame, heard_mirror, true_and]
      exact heard_queue .empty
  · obtain ⟨hkept, hattributed⟩ := takeUndefined_kept i (heard (.undefined i) s)
    have hqueue : (takeUndefined i (heard (.undefined i) s)).queue = (heard (.undefined i) s).queue := by simp
    have hcalm (h : Calm s) : concluded (takeUndefined i (heard (.undefined i) s)) =
        takeUndefined i (heard (.undefined i) s) := by
      obtain ⟨hopen, hunjudged, hnone⟩ := h
      refine concluded_of_calm ?_ (by rw [hattributed]; simpa using hnone)
      unfold QueueOpen
      rw [hqueue]
      exact heard_open _ hopen
    have hnumber : (heard (.undefined i) s).number = s.number := by simp [heard]
    refine ⟨_, exec_undefinedCommand kind hl hr, by simp [hkept, heard_mirror, KeptFields.moveIssuers, observedIssuer], ?_,
      fun hsettled => ?_, fun hstate hother => ?_, ?_, fun h => ?_⟩
    · simp [heard, giveMemory, ChannelMemory.take, ChannelMemory.refuse]
    · have htaken := takeUndefined_of_settled (s := heard (.undefined i) s) (i := i) (by rwa [heard_membership, hnumber])
      rw [htaken]
      refine ⟨by simp [heard_mirror], by simp, by simp, by simp [heard_mirror], by simp, fun h => ?_⟩
      rw [← htaken, hcalm h, htaken]
      simp
    · rw [takeUndefined_of_initializing (by rwa [heard_membership]) (by rwa [hnumber])]
      simp [enterListening_membership, enterListening_mirror]
    · simp [OuterKept, heard]
    · have ⟨_, hunjudged, _⟩ := h
      rw [hcalm h, hqueue, heard_queue _ hunjudged]
      simp

end Sys2Proof.Machine
end

section
/-! PROOFS. Sync points at a LISTENING station, and the initialization (O23, O25). -/

namespace Sys2Proof.Machine

/-- The end of an observation leaves an account that has started. -/
theorem AccountStarted.finished {u : State} (h : AccountStarted u) : AccountStarted (finished u) := by
  obtain ⟨hactive, hdebt, hperiod, hstarted, hcounting⟩ := h
  obtain ⟨hactive', hdebt', hcounting', hperiod', -⟩ := finished_account u
  have hstarted' : (Machine.finished u).work.accountStarted = true := by
    rw [Machine.finished, concluded_work]
    exact judgeAlerted_started false _ (by simpa using hstarted)
  refine ⟨hactive'.trans hactive, hdebt'.trans hdebt, hperiod'.trans hperiod, hstarted', ?_⟩
  rw [hcounting', show (Machine.finished u).mirror = u.mirror by simp]
  exact hcounting

theorem ageStep_kept (c : Settings) (m : MemFields) :
    (ageStep c m).kind = m.kind ∧ (ageStep c m).thread = m.thread := by
  unfold ageStep
  split <;> exact ⟨rfl, rfl⟩

/-! ### A sync point at a LISTENING station (R44 to R46) -/

theorem abortedResponse_aged (c : Settings) (o : Observed) (e : Entry) :
    abortedResponse (ageEntry c o e) = abortedResponse e := by
  unfold ageEntry
  split
  · rfl
  · next m hm =>
    split
    · rfl
    · split
      · simp [abortedResponse, hm, ageStep_kept]
      · rfl

theorem abortedAnswers_aged (c : Settings) (o : Observed) (q : List Entry) (js : List Joining) :
    abortedAnswers (q.map (ageEntry c o)) js = abortedAnswers q js := by
  unfold abortedAnswers
  rw [List.foldl_map]
  refine List.foldl_ext _ _ _ fun js e _ => ?_
  obtain ⟨-, horder, -, -⟩ := ageEntry_kept c o e
  rw [horder, abortedResponse_aged]

theorem drainEntries_faults (s : State) : FaultsGrow s.faults (drainEntries s).faults := by
  unfold drainEntries
  generalize s.queue.filter (fun e => e.phase.owing) = es
  induction es generalizing s with
  | nil => exact .refl
  | cons e rest ih =>
    have hone : FaultsGrow s.faults (drainEntry e s).faults := by
      unfold drainEntry
      split
      · exact FaultsGrow.recordFault .readDataError (tagDetail e.tag) (answerEntry e.tag .dataError s)
      · exact .refl
    exact hone.trans (ih _)

theorem enterDraining_faults (target : DrainTarget) (s : State) : FaultsGrow s.faults (enterDraining target s).faults := by
  obtain ⟨-, -, -, hfaults⟩ := drained_blocks target s
  have hsame : (enterDraining target s).faults = (drainEntries s).faults := by simp [enterDraining_eq, hfaults]
  rw [hsame]
  exact drainEntries_faults s

theorem enterDraining_attributed (target : DrainTarget) (s : State) :
    (enterDraining target s).work.attributed = s.work.attributed := by
  simp [enterDraining_eq, drained, withdrawVote, dropFence, doubtMirror, emptyTable]

/-- What the end of a silence leaves. -/
@[simp] theorem silenceEnded_frame (fault : Bool) (c : LaneCommand) (s : State) :
    (silenceEnded fault c s).pending = s.pending ∧ (silenceEnded fault c s).slot = s.slot ∧
      (silenceEnded fault c s).lines = s.lines ∧ (silenceEnded fault c s).loader = s.loader ∧
      (silenceEnded fault c s).membership = { s.membership with silence := 0 } ∧
      (silenceEnded fault c s).mirror.kept = s.mirror.kept ∧ (silenceEnded fault c s).queue = s.queue ∧
      (silenceEnded fault c s).port = s.port ∧ (silenceEnded fault c s).faults = s.faults ∧
      (silenceEnded fault c s).counters = s.counters ∧ (silenceEnded fault c s).work = s.work ∧
      (silenceEnded fault c s).settings = s.settings := by
  unfold silenceEnded
  split <;> simp [doubtMirror]

/-- Settles O23: the digest decides; the station's own makes the mirror known, another one drains the station. -/
theorem syncPointAtListeningStation : Obligations.SyncPointAtListeningStation := by
  unfold Obligations.SyncPointAtListeningStation
  intro s i c d k hstate harrived hkept hsync hunattributed hready
  have hcompares : compares s = true := compares_iff.2 (.inr (.inl hstate))
  have hexec := exec_laneStep_station (takesLane_of_compares hcompares harrived) hready
  rw [stationCommand_listening i _ c (by simpa using hstate), listenCommand_sync i _ hsync] at hexec
  generalize hv : silenceEnded (mirrorFault c s) c (commandNoted i c s) = v at hexec
  have hmembership : v.membership = { s.membership with silence := 0 } := by simp [← hv]
  have hvouter : v.pending = s.pending ∧ v.slot = s.slot ∧ v.lines = s.lines ∧ v.loader = s.loader := by simp [← hv]
  obtain ⟨hpending, hslot, hlines, hloader⟩ := hvouter
  have hattributed : v.work.attributed = none := by simp [← hv, hunattributed]
  have hsettings : v.settings = s.settings := by simp [← hv]
  by_cases hown : d = s.settings.digest
  · have hknown : (makeKnown c v).mirror.known.isSome = true := by
      refine makeKnown_known (by simp [isSync, hsync]) ?_
      have hfields : v.mirror.kept = (commandNoted i c s).mirror.kept := by simp [← hv]
      rw [show (makeKnown c v).mirror.kept = v.mirror.kept by simp, hfields, commandNoted_kept, hkept]
      rfl
    cases hsample : s.lines.readySample with
    | true =>
      have hstation : listenSync i c d v = enterMember (makeKnown c v) := by
        unfold listenSync
        rw [if_pos (by rw [hsettings, hown])]
        simp [hlines, hsample]
      rw [hstation] at hexec
      refine ⟨_, hexec, by simp [OuterKept, *], by simp [enterMember_membership, hmembership],
        fun _ => ⟨by simpa using hknown, fun _ => ⟨by simp [enterMember_membership],
          (enterMember_started_account _).finished, finished_idle rfl⟩, by simp⟩, fun h => absurd hown h⟩
    | false =>
      have hstation : listenSync i c d v = makeKnown c v := by
        unfold listenSync
        rw [if_pos (by rw [hsettings, hown])]
        simp [hlines, hsample]
      rw [hstation] at hexec
      exact ⟨_, hexec, by simp [OuterKept, *], by simp [hmembership],
        fun _ => ⟨by simpa using hknown, by simp, fun _ => by simp [hmembership]⟩, fun h => absurd hown h⟩
  · have hstation : listenSync i c d v = enterDraining .withdrawn (recordFault .configMismatch (stationDetail i) v) := by
      unfold listenSync
      rw [if_neg (by rwa [hsettings])]
      simp [withdrawByDrain, hmembership, hstate]
    rw [hstation] at hexec
    generalize hr : recordFault .configMismatch (stationDetail i) v = r at hexec
    have hnoted : FaultNoted .configMismatch (i.setWidth 8) s.faults r.faults := by
      have hsame : v.faults = s.faults := by simp [← hv]
      rw [← hsame, ← hr]
      exact faultNoted_recordFault .configMismatch (i.setWidth 8) v
    have hfaults : (finished (enterDraining .withdrawn r)).faults = (enterDraining .withdrawn r).faults :=
      finished_faults (by rw [enterDraining_attributed, ← hr]; exact hattributed)
    obtain ⟨hstands, hfirstStands⟩ := enterDraining_faults .withdrawn r
    have ⟨_, hfirst, _⟩ := hnoted
    have hrmembership : r.membership = v.membership := by simp [← hr]
    have hrouter : r.pending = v.pending ∧ r.slot = v.slot ∧ r.lines = v.lines ∧ r.loader = v.loader := by simp [← hr]
    refine ⟨_, hexec, by simp [OuterKept, *], by simp [enterDraining_membership, hrmembership, hmembership],
      fun h => absurd h hown, fun _ => ⟨by simp [enterDraining_membership], by simp [enterDraining_membership],
        by simp [enterDraining_mirror], ?_, by rw [hfaults, hfirstStands _ hfirst], fun hwaiting => ?_⟩⟩
    · rw [hfaults]
      refine hstands _ ?_
      rw [← hr]
      exact faultStands_add .configMismatch (stationDetail i) v.faults
    · have hqueue : r.queue = s.queue.map (ageEntry s.settings (.command i c)) := by
        simp [← hr, ← hv, commandNoted_queue, heard_queue_map]
      have hphases : ∀ e ∈ r.queue, e.phase = .waiting := by
        intro e he
        rw [hqueue, List.mem_map] at he
        obtain ⟨x, hx, rfl⟩ := he
        obtain ⟨hphase, -, -, -⟩ := ageEntry_kept s.settings (.command i c) x
        rw [hphase, hwaiting x hx]
      obtain ⟨hempty, hquiet, hport, hcounters⟩ := enterDraining_waiting .withdrawn hphases
      have hcalm : finished (enterDraining .withdrawn r) = followRefresh (enterDraining .withdrawn r) :=
        finished_of_calm (by unfold QueueOpen; rw [hempty]; simp)
          (by rw [enterDraining_attributed, ← hr]; exact hattributed)
      have hsport : r.port = s.port ∧ r.counters = s.counters := by simp [← hr, ← hv]
      obtain ⟨hrport, hrcounters⟩ := hsport
      refine ⟨by simp [hcalm, hempty], by rw [hfaults, hquiet]; exact hnoted, ?_, ?_⟩
      · simp [hcalm, hport, hrport, hqueue, abortedAnswers_aged]
      · simp [hcalm, hcounters, hrcounters, hqueue]

/-! ### The initialization (R48 to R50) -/

theorem takesLane_of_initializing {s : State} (hstate : s.membership.state = .initializing) (harrived : s.work.arrived = false) :
    takesLane s = true := by
  simp [takesLane, hstate, harrived]

theorem initCommand_congr {s u : State} (hsettings : u.settings = s.settings) (htiming : u.timing = s.timing)
    (st : InitStep) : initCommand u st = initCommand s st := by
  cases st <;> simp [initCommand, hsettings, htiming]

/-- The station's own command of its current step, at a state with the settings and times that the step is of. -/
theorem advanceInit_own {s u : State} {st : InitStep} (hstep : u.membership.initStep = some st)
    (hsettings : u.settings = s.settings) (htiming : u.timing = s.timing) :
    (∀ n, st.next = some n →
      advanceInit (initCommand s st) u = u.withMembership { u.membership with initStep := some n }) ∧
      (st.next = none → advanceInit (initCommand s st) u = enterMember u) := by
  unfold advanceInit
  rw [hstep]
  dsimp only
  rw [initCommand_congr hsettings htiming, if_pos rfl]
  constructor
  · intro n hn
    rw [hn]
  · intro hn
    rw [hn]

/-- Settles O25: the step's own command, the fixed commands and their order, and another station's command. -/
theorem initializationAdvances : Obligations.InitializationAdvances := by
  unfold Obligations.InitializationAdvances
  refine ⟨fun s st hstate hstep harrived hkept hunattributed hready => ?_, fun s => by simp [initCommand],
    by simp [InitStep.next], fun s i c hstate harrived hother hready => ?_⟩
  · have hexec := exec_laneStep_station (takesLane_of_initializing hstate harrived) hready
    generalize hc : initCommand s st = c at hexec
    rw [stationCommand_initializing _ _ c (by simpa using hstate), initializeCommand, if_pos (by simp)] at hexec
    generalize hu : (if isSync c then makeKnown c (commandNoted s.number c s) else commandNoted s.number c s) = u at hexec
    have hframe : u.membership = s.membership ∧ u.settings = s.settings ∧ u.timing = s.timing ∧ OuterKept s u ∧
        u.work.observed = some (.command s.number c) := by
      rw [← hu]
      split <;> simp [OuterKept]
    obtain ⟨hmembership, hsettings, htiming, ⟨hpending, hslot, hlines, hloader⟩, hobserved⟩ := hframe
    obtain ⟨hadvance, hlast⟩ := advanceInit_own (s := s) (u := u) (st := st) (by rw [hmembership, hstep]) hsettings htiming
    rw [hc] at hadvance hlast
    refine ⟨_, hexec, ?_, fun n hn => ?_, fun hst => ?_, fun hst => ?_⟩
    · cases hn : st.next with
      | none => simp [hlast hn, OuterKept, *]
      | some n => simp [hadvance n hn, OuterKept, *]
    · simp [hadvance n hn, hmembership]
    · have hknown : u.mirror.known.isSome = true := by
        have hsync : isSync c = true := by
          rw [← hc, hst]
          rfl
        rw [← hu, if_pos hsync]
        refine makeKnown_known hsync ?_
        simpa [commandNoted_kept] using hkept
      have hnext : st.next = some .firstRefresh := by rw [hst]; rfl
      simpa [hadvance _ hnext] using hknown
    · have hnext : st.next = none := by rw [hst]; rfl
      rw [hlast hnext]
      refine ⟨by simp [enterMember_membership, hmembership], (enterMember_started_account u).finished, ?_⟩
      have hrefresh : c = .refresh 0 := by rw [← hc, hst]; rfl
      have hduty := followRefresh_duty (s := enterMember u) (i := s.number) (check := 0)
        (by simp [enterMember, startAccount, hobserved, hrefresh])
        (by simp [enterMember_membership, keepsDuty])
      have hconcluded : (finished (enterMember u)).controller.duty = (followRefresh (enterMember u)).controller.duty := by
        simp [finished]
      rw [hconcluded, hduty, enterMember_membership, hmembership]
  · have hexec := exec_laneStep_station (takesLane_of_initializing hstate harrived) hready
    rw [stationCommand_initializing _ _ c (by simpa using hstate), initializeCommand, if_neg (by simpa using hother)] at hexec
    exact ⟨_, hexec, by simp [OuterKept], by simp [enterListening_mirror], by simp [enterListening_mirror],
      by simp [enterListening_membership]⟩

end Sys2Proof.Machine
end

section
/-! PROOFS. Entries answered and retired: the capture of a READ's bursts and the clean alert window (O37, O39). -/

namespace Sys2Proof.Machine

/-! ### The walk at an answered entry (R100, R103) -/

/-- What neither is answered nor is a FENCE stays in front of what follows it. -/
theorem retireWalk_append {slot : Nat} {closing older : Bool} {before q : List Entry}
    (h : ∀ x ∈ before, x.phase.answered = none ∧ x.mem.isSome = true) :
    retireWalk slot closing older (before ++ q) =
      (before ++ (retireWalk slot closing (older || !before.isEmpty) q).1,
        (retireWalk slot closing (older || !before.isEmpty) q).2) := by
  induction before generalizing older with
  | nil => simp
  | cons x rest ih =>
    obtain ⟨⟨hanswered, hmem⟩, hrest⟩ := List.forall_mem_cons.1 h
    obtain ⟨m, hm⟩ := Option.isSome_iff_exists.1 hmem
    have hstays : retiresWith slot closing older x = none := by simp [retiresWith, hanswered, hm]
    simp [retireWalk, hstays, ih hrest]

theorem retireWalk_cons_answered {slot : Nat} {closing older : Bool} {e : Entry} {o : EntryOutcome} {q : List Entry}
    (h : e.phase.answered = some o) : retireWalk slot closing older (e :: q) =
      ((retireWalk slot closing older q).1, (e, o) :: (retireWalk slot closing older q).2) := by
  simp [retireWalk, retiresWith, h]

/-- The entries of other tags are what is in front of an entry and what follows it. -/
theorem split_at_tag {q : List Entry} {e : Entry} (hnodup : (q.map Entry.tag).Nodup) (he : e ∈ q) :
    ∃ before after, q = before ++ e :: after ∧ (∀ x ∈ before ++ after, x.tag ≠ e.tag) ∧
      q.filter (fun x => decide (x.tag ≠ e.tag)) = before ++ after := by
  obtain ⟨before, after, rfl⟩ := List.append_of_mem he
  have hother : ∀ x ∈ before ++ after, x.tag ≠ e.tag := by
    rw [List.map_append, List.map_cons, List.nodup_middle, List.nodup_cons] at hnodup
    intro x hx htag
    exact hnodup.1 (by rw [← List.map_append, ← htag]; exact List.mem_map_of_mem hx)
  obtain ⟨hbefore, hafter⟩ := List.forall_mem_append.1 hother
  refine ⟨before, after, rfl, hother, ?_⟩
  have hkeep (l : List Entry) (h : ∀ x ∈ l, x.tag ≠ e.tag) : l.filter (fun x => decide (x.tag ≠ e.tag)) = l :=
    List.filter_eq_self.2 fun x hx => by simp [h x hx]
  rw [List.filter_append, List.filter_cons_of_neg (by simp), hkeep before hbefore, hkeep after hafter]

/-- The change of one entry, where the tags are distinct. -/
theorem map_at_tag {before after : List Entry} {e : Entry} (f : Entry → Entry)
    (h : ∀ x ∈ before ++ after, x.tag ≠ e.tag) :
    (before ++ e :: after).map (fun x => if x.tag = e.tag then f x else x) = before ++ f e :: after := by
  obtain ⟨hbefore, hafter⟩ := List.forall_mem_append.1 h
  have hsame (l : List Entry) (hl : ∀ x ∈ l, x.tag ≠ e.tag) : l.map (fun x => if x.tag = e.tag then f x else x) = l := by
    conv_rhs => rw [← List.map_id l]
    exact List.map_congr_left fun x hx => if_neg (hl x hx)
  rw [List.map_append, List.map_cons, hsame before hbefore, hsame after hafter, if_pos rfl]

/-- A queue whose one answered entry has changed by `f` retires that entry alone. -/
theorem retireDone_changed {s : State} {e : Entry} {f : Entry → Entry} {o : EntryOutcome} (closing : Bool) (hopen : QueueOpen s)
    (hnodup : (queueTags s).Nodup) (he : e ∈ s.queue) (hanswered : (f e).phase.answered = some o) :
    (retireDone closing (changeEntry e.tag f s)).queue = s.queue.filter (fun x => decide (x.tag ≠ e.tag)) ∧
      (retireDone closing (changeEntry e.tag f s)).port.joining =
        joinRetired (f e).order (entryResponse (f e) o) s.port.joining ∧
      (retireDone closing (changeEntry e.tag f s)).counters =
        { s.counters with requestsCompleted := s.counters.requestsCompleted + 1 } := by
  obtain ⟨before, after, hq, hother, hfilter⟩ := split_at_tag hnodup he
  have hrest : ∀ x ∈ before ++ after, x.phase.answered = none ∧ x.mem.isSome = true := by
    intro x hx
    refine hopen x ?_
    rw [hq]
    rcases List.mem_append.1 hx with hx | hx <;> simp [hx]
  obtain ⟨hbefore, hafter⟩ := List.forall_mem_append.1 hrest
  have hqueue : (changeEntry e.tag f s).queue = before ++ f e :: after := by
    show s.queue.map _ = _
    rw [hq, map_at_tag f hother]
  have hwalk : retireWalk (changeEntry e.tag f s).slot closing false (changeEntry e.tag f s).queue =
      (before ++ after, [(f e, o)]) := by
    rw [hqueue, retireWalk_append hbefore, retireWalk_cons_answered hanswered, retireWalk_open hafter]
  obtain ⟨hqueue', hjoining, hcompleted⟩ := retireDone_walk closing (changeEntry e.tag f s)
  rw [hwalk] at hqueue' hjoining hcompleted
  refine ⟨hqueue'.trans hfilter.symm, hjoining, ?_⟩
  rw [retireDone_counters, hcompleted]
  rfl

theorem changeEntry_changeEntry {tag : Tag} {f g : Entry → Entry} (hf : ∀ x, (f x).tag = x.tag) (s : State) :
    changeEntry tag g (changeEntry tag f s) = changeEntry tag (fun x => g (f x)) s := by
  refine congrArg s.withQueue ?_
  show (s.queue.map _).map _ = s.queue.map _
  rw [List.map_map]
  refine List.map_congr_left fun x _ => ?_
  by_cases hx : x.tag = tag <;> simp [hx, hf]

/-- A change that answers no entry leaves nothing to retire. -/
theorem changeEntry_open {s : State} {tag : Tag} {f : Entry → Entry} (h : QueueOpen s)
    (hf : ∀ x ∈ s.queue, x.tag = tag → (f x).phase.answered = none ∧ (f x).mem.isSome = true) :
    QueueOpen (changeEntry tag f s) := by
  intro y hy
  obtain ⟨x, hx, rfl⟩ := List.mem_map.1 hy
  split
  · exact hf x hx ‹_›
  · exact h x hx

/-! ### The clean alert window (R97, R103, R177) -/

theorem windowExpired_iff {window slot : Nat} {e : Entry} : windowExpired window slot e = true ↔
    e.phase = .writeIssued ∧ ∃ m i, e.mem = some m ∧ m.issueSlot = some i ∧ i + window ≤ slot := by
  unfold windowExpired
  cases hphase : e.phase <;> cases hmem : e.mem <;> simp
  next m => cases hissue : m.issueSlot <;> simp

theorem exec_alertWindowExpiry {s : State} (hended : s.work.ended = true) (hdue : windowDue s = true) :
    exec .alertWindowExpiry s = .next (retireDone false (expireWindows s)) :=
  whenDue_ended (act := fun s => retireDone false (expireWindows s)) hended hdue

theorem mem_joinRetired (order : Nat) (r : Response) (js : List Joining) : .retired order r ∈ joinRetired order r js := by
  obtain ⟨before, after, -, hjoin, -⟩ := joinRetired_spec order r js
  simp [hjoin]

theorem mem_joinAll {gone : List (Entry × EntryOutcome)} {p : Entry × EntryOutcome} (h : p ∈ gone) (js : List Joining) :
    .retired p.1.order (entryResponse p.1 p.2) ∈ joinAll gone js := by
  induction gone generalizing js with
  | nil => simp at h
  | cons first rest ih =>
    rcases List.mem_cons.1 h with rfl | h
    · exact (joinAll_sublist rest _).subset (mem_joinRetired _ _ js)
    · exact ih h _

/-- Settles O39: the entry alone retires, and the FENCE behind it where nothing is in front. -/
theorem cleanWindowRetiresWrite : Obligations.CleanWindowRetiresWrite := by
  unfold Obligations.CleanWindowRetiresWrite
  refine ⟨fun s e m w hended he hphase hmem hissue hlate hopen hnodup hone => ?_,
    fun s before after e f m hended hq hopen hmem hexpired hother hfence hwaits hjoined => ?_⟩
  · have hexpired : windowExpired s.timing.alertWindow s.slot e = true :=
      windowExpired_iff.2 ⟨hphase, m, w, hmem, hissue, hlate⟩
    have hchange : expireWindows s = changeEntry e.tag (fun x => x.answer (cleanOutcome x)) s := by
      refine congrArg s.withQueue (List.map_congr_left fun x hx => ?_)
      by_cases htag : x.tag = e.tag
      · rw [List.inj_on_of_nodup_map hnodup hx he htag, if_pos hexpired, if_pos rfl]
      · rw [if_neg htag, if_neg fun h => htag (congrArg Entry.tag (hone x hx h))]
    obtain ⟨hqueue, hjoining, hcounters⟩ := retireDone_changed (o := cleanOutcome e)
      (f := fun x => x.answer (cleanOutcome x)) false hopen hnodup he rfl
    refine ⟨_, exec_alertWindowExpiry hended (List.any_eq_true.2 ⟨e, he, hexpired⟩), ?_⟩
    rw [hchange]
    refine ⟨by simp [OuterKept, changeEntry], hqueue, ?_, hcounters, by simp [changeEntry], by simp [changeEntry],
      by simp [changeEntry], by simp [changeEntry], by simp [changeEntry], by simp [changeEntry]⟩
    rw [hjoining]
    cases hkind : m.kind <;> simp [Entry.answer, entryResponse, cleanOutcome, hmem, hkind, MemKind.isWrite]
  · obtain ⟨hbefore, hafter⟩ := List.forall_mem_append.1 hopen
    obtain ⟨hbefore', hafter'⟩ := List.forall_mem_append.1 hother
    have hunchanged (l : List Entry) (hl : ∀ x ∈ l, windowExpired s.timing.alertWindow s.slot x = false) :
        l.map (fun x => if windowExpired s.timing.alertWindow s.slot x then x.answer (cleanOutcome x) else x) = l := by
      conv_rhs => rw [← List.map_id l]
      exact List.map_congr_left fun x hx => if_neg (by simp [hl x hx])
    have hfenceStays : windowExpired s.timing.alertWindow s.slot f = false := by simp [windowExpired, hwaits]
    have hqueue : (expireWindows s).queue = before ++ e.answer (cleanOutcome e) :: f :: after := by
      show s.queue.map _ = _
      rw [hq, List.map_append, List.map_cons, List.map_cons, hunchanged before hbefore', hunchanged after hafter',
        if_pos hexpired, if_neg (by simp [hfenceStays])]
    have hslot : (expireWindows s).slot = s.slot := rfl
    have hdue : windowDue s = true := List.any_eq_true.2 ⟨e, by simp [hq], hexpired⟩
    obtain ⟨hqueue', hjoining, hcompleted⟩ := retireDone_walk false (expireWindows s)
    have hanswered := retireWalk_cons_answered (slot := s.slot) (closing := false) (older := false || !before.isEmpty)
      (e := e.answer (cleanOutcome e)) (q := f :: after) rfl
    rw [hqueue, hslot, retireWalk_append hbefore, hanswered] at hqueue' hjoining hcompleted
    have hcounted : (expireWindows s).counters = s.counters := rfl
    refine ⟨_, exec_alertWindowExpiry hended hdue, ?_⟩
    by_cases hfirst : before = []
    · subst hfirst
      have hwalk : retireWalk s.slot false (false || !([] : List Entry).isEmpty) (f :: after) = (after, [(f, .ok)]) := by
        have hretires : retiresWith s.slot false false f = some .ok := by
          simp [retiresWith, hwaits, hfence, Phase.answered, hjoined]
        simp [retireWalk, hretires, retireWalk_open hafter]
      rw [hwalk] at hqueue' hjoining hcompleted
      refine ⟨by simpa using hqueue', fun h => absurd rfl h, fun _ => ⟨by rw [hcompleted, hcounted]; rfl, ?_⟩⟩
      rw [hjoining]
      have hmember := mem_joinAll (gone := [(e.answer (cleanOutcome e), cleanOutcome e), (f, .ok)]) (p := (f, .ok))
        (by simp) (expireWindows s).port.joining
      simpa [entryResponse, hfence, fenceCode] using hmember
    · have hwalk : retireWalk s.slot false (false || !before.isEmpty) (f :: after) = (f :: after, []) := by
        have hstays : retiresWith s.slot false true f = none := by
          simp [retiresWith, hwaits, Phase.answered]
        have hnonempty : before.isEmpty = false := by simpa using hfirst
        simp [retireWalk, hnonempty, hstays, retireWalk_open hafter]
      rw [hwalk] at hqueue' hjoining hcompleted
      refine ⟨by simpa [hfirst] using hqueue', fun _ => by rw [hcompleted, hcounted]; rfl, fun h => absurd h hfirst⟩

/-! ### The capture of a READ's bursts (R96, R165, R174) -/

theorem dueBurst_slot {latency slot i : Nat} {m : MemFields} (h : dueBurst latency slot m = some i) :
    ∃ r, m.issueSlot = some r ∧ slot = r + latency + i ∧ i < m.bursts.toNat := by
  unfold dueBurst at h
  split at h
  · simp at h
  · next r hr =>
    split at h
    · injection h with hi
      exact ⟨r, hr, by omega, by omega⟩
    · simp at h

theorem dueBurst_lt {latency slot i : Nat} {m : MemFields} (h : dueBurst latency slot m = some i) : i < m.bursts.toNat := by
  obtain ⟨-, -, -, hi⟩ := dueBurst_slot h
  exact hi

/-- An entry that captures in the slot in hand. -/
theorem captureOf_eq_some {s : State} {e : Entry} {m : MemFields} {i : Nat} (h : captureOf s = some (e, m, i)) :
    e ∈ s.queue ∧ e.phase = .readIssued ∧ e.mem = some m ∧ dueBurst s.timing.readLatency s.slot m = some i := by
  obtain ⟨x, hx, hcapture⟩ := List.exists_of_findSome?_eq_some h
  unfold captureOfEntry at hcapture
  split at hcapture
  · next m' hphase hmem =>
    obtain ⟨j, hj, heq⟩ := Option.map_eq_some_iff.1 hcapture
    injection heq with hxe hrest
    injection hrest with hm hi
    subst hxe hm hi
    exact ⟨hx, hphase, hmem, hj⟩
  · simp at hcapture

/-- A burst of the lines, in a slot that has taken none. -/
theorem exec_readBurstCapture {s : State} (data : BurstData) (mask : Mask) (check : Byte)
    (hcaptured : s.work.captured = false) (hlines : s.work.peerBurst = none) :
    exec (.readBurstCapture ⟨data, mask⟩ check) s = .next (takeLines ⟨data, mask, check⟩ s) := by
  show Host.Outcome.next (takeLines _ (beforeOnce (s.work.captured || s.work.peerBurst.isSome) s)) = _
  rw [hcaptured, hlines]
  rfl

/-- The state in which a burst is captured. -/
def capturing (data : BurstData) (mask : Mask) (check : Byte) (s : State) : State :=
  s.withWork { s.work with captured := true, peerBurst := some ⟨data, mask, check⟩ }

/-- An entry with the fields that a capture leaves. -/
def Entry.withFields (m : MemFields) (e : Entry) : Entry := { e with mem := some m }

theorem changeEntry_withFields (tag : Tag) (m : MemFields) (g : Entry → Entry) (s : State) :
    changeEntry tag g (changeEntry tag (Entry.withFields m) s) = changeEntry tag (fun x => g (x.withFields m)) s :=
  changeEntry_changeEntry (f := Entry.withFields m) (fun _ => rfl) s

theorem takeLines_captured {s : State} {e : Entry} {m : MemFields} {i : Nat} (data : BurstData) (mask : Mask) (check : Byte)
    (hended : s.work.ended = true) (h : captureOf s = some (e, m, i)) :
    (i + 1 < m.bursts.toNat → takeLines ⟨data, mask, check⟩ s =
      changeEntry e.tag (Entry.withFields (m.capture data check)) (capturing data mask check s)) ∧
    (i + 1 = m.bursts.toNat → takeLines ⟨data, mask, check⟩ s = retireDone false (judgeRead e.tag (m.capture data check)
      (changeEntry e.tag (Entry.withFields (m.capture data check)) (capturing data mask check s)))) := by
  have hnoted : captureOf (noteLines ⟨data, mask, check⟩ s) = some (e, m, i) := h
  have htaken : takeLines ⟨data, mask, check⟩ s = captureBurst data check (noteLines ⟨data, mask, check⟩ s) := by
    simp [takeLines, reachEnd_ended hended, h]
  rw [htaken, captureBurst, hnoted]
  dsimp only
  refine ⟨fun hi => ?_, fun hi => ?_⟩
  · rw [if_neg (by omega)]
    rfl
  · rw [if_pos hi]
    rfl

/-- A READ that fails without a retry left, before its entry is answered. -/
def readFailed (tag : Tag) (m : MemFields) (s : State) : State :=
  if m.kind = .exclRead then (recordFault .readDataError (tagDetail tag) s).withTable (s.table.failRead m)
  else recordFault .readDataError (tagDetail tag) s

theorem failRead_eq (tag : Tag) (m : MemFields) (s : State) :
    failRead tag m s = answerEntry tag .dataError (readFailed tag m s) := by
  unfold failRead readFailed
  split <;> rfl

theorem readFailed_changeEntry (tag : Tag) (m : MemFields) (f : Entry → Entry) (s : State) :
    readFailed tag m (changeEntry tag f s) = changeEntry tag f (readFailed tag m s) := by
  unfold readFailed
  split <;> rfl

@[simp] theorem readFailed_frame (tag : Tag) (m : MemFields) (s : State) :
    (readFailed tag m s).queue = s.queue ∧ (readFailed tag m s).port = s.port ∧
      (readFailed tag m s).counters = s.counters := by
  unfold readFailed
  split <;> simp

theorem readFailed_faults (tag : Tag) (m : MemFields) (s : State) :
    FaultNoted .readDataError (tagDetail tag) s.faults (readFailed tag m s).faults := by
  unfold readFailed
  split <;> exact faultNoted_recordFault .readDataError (tagDetail tag) s

/-- The table of a READ that fails: an EXCL_READ loses the reservation that its command set, and no other goes (R165). -/
theorem readFailed_table (tag : Tag) (m : MemFields) (s : State) : (readFailed tag m s).table.lastWrite = s.table.lastWrite ∧
    (m.kind ≠ .exclRead → (readFailed tag m s).table = s.table) ∧
    (m.kind = .exclRead → ∀ r, r ∈ (readFailed tag m s).table.reservations ↔
      r ∈ s.table.reservations ∧ ¬(r.thread = m.thread ∧ some r.setOrder = m.issueSlot)) := by
  unfold readFailed
  refine ⟨?_, fun h => ?_, fun h r => ?_⟩
  · split <;> rfl
  · rw [if_neg h]
    rfl
  · rw [if_pos h]
    simp [ReservationTable.failRead]
    tauto

/-- The retry that a READ owes: its bursts go (R96). -/
def Entry.retryRead (slot : Nat) (e : Entry) : Entry :=
  { e with
    phase := .retryWait
    mem := e.mem.map fun m => { m with captured := [], captureFailed := false, retryUsed := true, retrySlot := some slot } }

theorem retryRead_eq (tag : Tag) (s : State) : retryRead tag s =
    changeEntry tag (Entry.retryRead s.slot)
      (s.withCounters { s.counters with readRetries := s.counters.readRetries + 1 }) := rfl

theorem judgeRead_cases {tag : Tag} {m : MemFields} {s : State} :
    (m.captureFailed = false → judgeRead tag m s = answerEntry tag .ok s) ∧
      (m.captureFailed = true → m.retryUsed = false → s.membership.state ≠ .draining →
        judgeRead tag m s = retryRead tag s) ∧
      (m.captureFailed = true → m.retryUsed = true ∨ s.membership.state = .draining →
        judgeRead tag m s = failRead tag m s) := by
  unfold judgeRead
  refine ⟨fun h => by simp [h], fun h hr hs => by simp [h, hr, hs], fun h hr => ?_⟩
  rcases hr with hr | hr <;> simp [h, hr]

theorem getElem?_changeEntry {s : State} {tag : Tag} {f : Entry → Entry} {j : Nat} {x : Entry} (h : s.queue[j]? = some x) :
    (x.tag = tag → (changeEntry tag f s).queue[j]? = some (f x)) ∧
      (x.tag ≠ tag → (changeEntry tag f s).queue[j]? = some x) := by
  refine ⟨fun htag => ?_, fun htag => ?_⟩ <;> simp [changeEntry, h, htag]

/-- What a capture leaves of the blocks that no READ reaches. -/
theorem takeLines_kept {s : State} {e : Entry} {m : MemFields} {i : Nat} (data : BurstData) (mask : Mask) (check : Byte)
    (hended : s.work.ended = true) (h : captureOf s = some (e, m, i)) :
    OuterKept s (takeLines ⟨data, mask, check⟩ s) ∧ (takeLines ⟨data, mask, check⟩ s).membership = s.membership ∧
      (takeLines ⟨data, mask, check⟩ s).mirror = s.mirror ∧ (takeLines ⟨data, mask, check⟩ s).dataUnit = s.dataUnit ∧
      (takeLines ⟨data, mask, check⟩ s).memory = s.memory ∧ (takeLines ⟨data, mask, check⟩ s).work.captured = true ∧
      (takeLines ⟨data, mask, check⟩ s).work.peerBurst = some ⟨data, mask, check⟩ := by
  obtain ⟨-, -, -, hdue⟩ := captureOf_eq_some h
  obtain ⟨hearlier, hlast⟩ := takeLines_captured data mask check hended h
  have hbound := dueBurst_lt hdue
  rcases Nat.lt_or_eq_of_le (Nat.succ_le_of_lt hbound) with hi | hi
  · rw [hearlier hi]
    simp [OuterKept, capturing]
  · rw [hlast hi, retireDone_work]
    simp [OuterKept, capturing]

/-- Settles O37: the burst held, and at the last one the READ judged by its three outcomes. -/
theorem readBurstCaptureJudgesRead : Obligations.ReadBurstCaptureJudgesRead := by
  unfold Obligations.ReadBurstCaptureJudgesRead
  refine ⟨fun s data mask check e m i hended hcaptured hlines h hopen hnodup => ?_,
    fun s lines check hended hcaptured hlines h => ?_⟩
  · obtain ⟨he, hphase, hmem, hdue⟩ := captureOf_eq_some h
    obtain ⟨houter, hmembership, hmirror, hunit, hmemory, htaken, hburst⟩ := takeLines_kept data mask check hended h
    obtain ⟨hearlier, hlast⟩ := takeLines_captured data mask check hended h
    generalize hv : capturing data mask check s = v at hearlier hlast
    have hqueue : v.queue = s.queue := by rw [← hv]; rfl
    have hblocks : v.table = s.table ∧ v.port = s.port ∧ v.counters = s.counters ∧ v.faults = s.faults ∧
        v.controller = s.controller ∧ v.membership = s.membership ∧ v.slot = s.slot := by simp [← hv, capturing]
    obtain ⟨htable, hport, hcounters, hfaults, hcontroller, hmember, hslot⟩ := hblocks
    have hvopen : QueueOpen v := by unfold QueueOpen; rwa [hqueue]
    have hvnodup : (queueTags v).Nodup := by unfold queueTags; rwa [hqueue]
    have hve : e ∈ v.queue := by rwa [hqueue]
    have hfailed : (m.capture data check).captureFailed = true ↔ m.captureFailed = true ∨ burstCheck data ≠ check := by
      simp [MemFields.capture]
    obtain ⟨hpassed, hretried, herror⟩ := judgeRead_cases (tag := e.tag) (m := m.capture data check)
      (s := changeEntry e.tag (Entry.withFields (m.capture data check)) v)
    refine ⟨_, exec_readBurstCapture data mask check hcaptured hlines, houter, hmembership, hmirror, hunit, hmemory, htaken,
      hburst, dueBurst_slot hdue, fun j x hx htag hi => ?_, fun hi => ?_, fun hi hgood hcheck => ?_,
      fun hi hbad hunused hstate => ?_, fun hi hbad hno => ?_⟩
    · rw [hearlier hi]
      exact (getElem?_changeEntry (by rwa [hqueue])).2 htag
    · rw [hearlier hi]
      refine ⟨fun j hj => (getElem?_changeEntry (by rwa [hqueue])).1 rfl, ?_⟩
      simp [htable, hport, hcounters, hfaults, hcontroller]
    · rw [hlast hi, hpassed (by simp [MemFields.capture, hgood, hcheck]), answerEntry, changeEntry_withFields]
      obtain ⟨hleft, hjoining, hcounted⟩ := retireDone_changed (o := .ok)
        (f := fun x => (x.withFields (m.capture data check)).answer .ok) false hvopen hvnodup hve rfl
      refine ⟨by rw [hleft, hqueue], by simp [hfaults], by simp [htable], by rw [hcounted, hcounters], ?_⟩
      rw [hjoining, hport]
      cases hkind : m.kind <;>
        simp [Entry.answer, Entry.withFields, entryResponse, MemFields.capture, hkind, MemKind.isWrite]
    · rw [hlast hi, hretried (hfailed.2 hbad) hunused (by simpa [hmember] using hstate), retryRead_eq]
      have hcommute (c : Counters) : (changeEntry e.tag (Entry.withFields (m.capture data check)) v).withCounters c =
          changeEntry e.tag (Entry.withFields (m.capture data check)) (v.withCounters c) := rfl
      rw [hcommute, changeEntry_withFields, retireDone_open false
        (changeEntry_open (by simpa [QueueOpen] using hvopen) fun _ _ _ => ⟨rfl, rfl⟩)]
      refine ⟨by simp [hcounters], by simp [hport], by simp [hfaults], by simp [htable], fun j hj => ?_⟩
      rw [(getElem?_changeEntry (by simpa [hqueue] using hj)).1 rfl]
      simp [Entry.retryRead, Entry.withFields, MemFields.capture, hslot]
    · rw [hlast hi, herror (hfailed.2 hbad) (by simpa [hmember, MemFields.capture] using hno), failRead_eq,
        readFailed_changeEntry, answerEntry, changeEntry_withFields]
      obtain ⟨hleft, hjoining, hcounted⟩ := retireDone_changed (o := .dataError)
        (s := readFailed e.tag (m.capture data check) v)
        (f := fun x => (x.withFields (m.capture data check)).answer .dataError) false (by simpa [QueueOpen] using hvopen)
        (by simpa [queueTags] using hvnodup) (by simpa using hve) rfl
      obtain ⟨hrecord, hother, hread⟩ := readFailed_table e.tag (m.capture data check) v
      have hnoted := readFailed_faults e.tag (m.capture data check) v
      rw [htable] at hrecord hother hread
      rw [hfaults] at hnoted
      refine ⟨by simp [hleft, hqueue], by simpa [tagDetail] using hnoted, by simp [hcounted, hcounters], ?_,
        by simpa using hrecord, fun hkind => by simpa using hother hkind, fun hkind r => by simpa [MemFields.capture] using hread hkind r⟩
      rw [hjoining]
      simp [hport, Entry.answer, Entry.withFields, entryResponse, MemFields.capture]
  · rw [exec_readBurstCapture lines.data lines.mask check hcaptured hlines]
    simp [takeLines, reachEnd_ended hended, h, noteLines]

end Sys2Proof.Machine
end

section
/-! PROOFS. WRITE_CHECK alerts: the attribution, the fence of the slot's end, and the issuer's own entry (O28, O29). -/

namespace Sys2Proof.Machine

/-! ### The attributed WRITE (R179) -/

theorem attributedWrite_eq_some {s : State} {a : Attribution} (hrecord : s.work.replacedAttribution = none)
    (ha : s.dataUnit.attribution = some a) (hissued : a.slot < s.slot) (hwindow : s.slot < a.slot + s.timing.alertWindow) :
    attributedWrite s = some a := by
  simp [attributedWrite, hrecord, ha, hissued, hwindow]

theorem attributedWrite_eq_none {s : State} (hrecord : s.work.replacedAttribution = none)
    (h : ∀ a, s.dataUnit.attribution = some a → s.slot ≤ a.slot ∨ a.slot + s.timing.alertWindow ≤ s.slot) :
    attributedWrite s = none := by
  unfold attributedWrite
  rw [hrecord]
  dsimp only
  split
  · rfl
  · next a ha => exact if_neg (by have := h a ha; omega)

theorem exec_writeCheckAlert {s : State} (hended : s.work.ended = true) (hfresh : s.work.writeAlert = false) :
    exec .writeCheckAlert s = .next (writeCheckAlert s) := by
  show Host.Outcome.next (writeCheckAlert (reachEnd (beforeOnce s.work.writeAlert s))) = _
  rw [hfresh]
  exact congrArg (fun u => Host.Outcome.next (writeCheckAlert u)) (reachEnd_ended hended)

/-- The station with the alert attributed, before the entry and the fence follow. -/
def alertAttributed (a : Attribution) (s : State) : State :=
  (s.withDataUnit { s.dataUnit with
      lastAlerted := if inRoster s.work.fell a.issuer then none else some (alertedWriteOf s a) }).withWork
    { s.work with writeAlert := true, attributed := some a }

theorem writeCheckAlert_attributed {s : State} {a : Attribution} (hlane : takesLane s = true)
    (hrecord : s.work.replacedAttribution = none) (ha : s.dataUnit.attribution = some a) (hissued : a.slot < s.slot)
    (hwindow : s.slot < a.slot + s.timing.alertWindow) : writeCheckAlert s = concluded (alertAttributed a s) := by
  unfold writeCheckAlert
  dsimp only
  have hlane' : takesLane (s.withWork { s.work with writeAlert := true }) = true := hlane
  have hwrite : attributedWrite (s.withWork { s.work with writeAlert := true }) = some a :=
    attributedWrite_eq_some (s := s.withWork { s.work with writeAlert := true }) hrecord ha hissued hwindow
  rw [if_pos hlane', hwrite]
  rfl

/-! ### The issuer's own entry (R97, R181) -/

theorem judgeAlerted_other {s : State} {a : Attribution} (closing : Bool) (ha : s.work.attributed = some a)
    (hissuer : a.issuer ≠ s.number) : judgeAlerted closing s = s := by
  simp [judgeAlerted, ha, hissuer]

theorem judgeAlerted_own {s : State} {a : Attribution} {e : Entry} (closing : Bool) (ha : s.work.attributed = some a)
    (hissuer : a.issuer = s.number) (he : s.queue.find? (writeIssuedIn a.slot) = some e) :
    judgeAlerted closing s = if closing || alertSettled s e then answerAlerted e s else s := by
  simp [judgeAlerted, ha, hissuer, he]

theorem judgeAlerted_retired {s : State} {a : Attribution} (closing : Bool) (ha : s.work.attributed = some a)
    (he : s.queue.find? (writeIssuedIn a.slot) = none) : judgeAlerted closing s = s := by
  simp [judgeAlerted, ha, he]

theorem judgeAlerted_attributed (closing : Bool) (s : State) :
    (judgeAlerted closing s).work.attributed = s.work.attributed := by
  unfold judgeAlerted answerAlerted
  (repeat' split) <;> simp

/-- Where a retry may be owed, the station is a MEMBER, or LEAVING with a known mirror. -/
theorem retriesWrites_iff {s : State} : retriesWrites s = true ↔
    s.membership.state = .member ∨ (s.membership.state = .leaving ∧ s.membership.leaveDoubt = false) := by
  unfold retriesWrites
  cases hs : s.membership.state <;> simp

/-- An alert at an entry whose retry is owed waits for the state that the slot leaves. -/
theorem alertSettled_of_retries {s : State} (h : retriesWrites s = true) (e : Entry) : alertSettled s e = e.retryUsed := by
  unfold alertSettled
  rcases retriesWrites_iff.1 h with hs | ⟨hs, hdoubt⟩ <;> simp [hs]
  simp [hdoubt]

theorem writeIssuedIn_iff {slot : Nat} {e : Entry} : writeIssuedIn slot e = true ↔
    e.phase = .writeIssued ∧ ∃ m, e.mem = some m ∧ m.issueSlot = some slot := by
  unfold writeIssuedIn
  cases hphase : e.phase <;> cases hmem : e.mem <;> simp

theorem holdsFence_of_retries {s : State} (h : retriesWrites s = true) : holdsFence s.membership.state = true := by
  rcases retriesWrites_iff.1 h with hs | ⟨hs, -⟩ <;> rw [hs] <;> rfl

/-- An entry that the walk keeps. -/
theorem retireWalk_keeps {slot : Nat} {closing older : Bool} {q : List Entry} {e : Entry} (he : e ∈ q)
    (hopen : e.phase.answered = none) (hmem : e.mem.isSome = true) : e ∈ (retireWalk slot closing older q).1 := by
  obtain ⟨m, hm⟩ := Option.isSome_iff_exists.1 hmem
  induction q generalizing older with
  | nil => simp at he
  | cons x rest ih =>
    rcases List.mem_cons.1 he with rfl | he
    · have hstays : retiresWith slot closing older e = none := by simp [retiresWith, hopen, hm]
      simp [retireWalk, hstays]
    · cases hx : retiresWith slot closing older x <;> simp [retireWalk, hx, ih he]

/-- A LEAVING station with an entry that stays does not detach. -/
theorem detaches_of_open {s : State} {e : Entry} (he : e ∈ s.queue) (hopen : e.phase.answered = none)
    (hmem : e.mem.isSome = true) : detaches s = false := by
  have hkept : (retireWalk s.slot true false s.queue).1.isEmpty = false := by
    rw [List.isEmpty_eq_false_iff]
    exact List.ne_nil_of_mem (retireWalk_keeps he hopen hmem)
  simp [detaches, hkept]

theorem detaches_of_state {s : State} (h : s.membership.state ≠ .leaving) : detaches s = false := by
  simp [detaches, h]

/-! ### The fence of the slot's end (R180) -/

theorem closeAlert_attributed {s : State} {a : Attribution} (ha : s.work.attributed = some a) :
    closeAlert s = settleFence a (judgeAlerted true s) := by
  unfold closeAlert
  rw [ha]

theorem settleFence_unheld {s : State} {a : Attribution} (h : holdsFence s.membership.state = false) :
    settleFence a s = s := by
  simp [settleFence, h]

theorem settleFence_gone {s : State} {a : Attribution} (hholds : holdsFence s.membership.state = true)
    (hstays : detaches s = false) (hgone : inRoster s.membership.roster a.issuer = false) :
    settleFence a s = recordFault .orphanWrite (stationDetail a.issuer) s := by
  simp [settleFence, hholds, hstays, hgone]

theorem settleFence_failed {s : State} {a : Attribution} (hholds : holdsFence s.membership.state = true)
    (hstays : detaches s = false) (hin : inRoster s.membership.roster a.issuer = true) (hfailed : s.work.alertFailed = true) :
    settleFence a s = dropFence (if s.mirror.fence.isSome then failFencedEntry s else s) := by
  have hkept : (if s.mirror.fence.isSome then failFencedEntry s else s).work.alertFailed = true := by
    split <;> simpa using hfailed
  simp only [settleFence, hholds, hstays, hin, Bool.not_false, Bool.and_self, if_true]
  rw [if_pos hkept]

theorem settleFence_set {s : State} {a : Attribution} (hholds : holdsFence s.membership.state = true)
    (hstays : detaches s = false) (hin : inRoster s.membership.roster a.issuer = true) (hopen : s.work.alertFailed = false) :
    (settleFence a s).mirror = { s.mirror with fence := some (fenceOf s a) } ∧
      (a.issuer ≠ s.number → (settleFence a s).dataUnit = { s.dataUnit with fencedEntry := none }) ∧
      (s.mirror.fence = none →
        (settleFence a s).dataUnit =
          { s.dataUnit with fencedEntry := if a.issuer = s.number then alertedRetry a s else none }) ∧
      (s.mirror.fence = none ∨ s.dataUnit.fencedEntry = none →
        (settleFence a s).queue = s.queue ∧ (settleFence a s).faults = s.faults) := by
  generalize hu : (if s.mirror.fence.isSome then failFencedEntry s else s) = u
  have hblocks : u.work = s.work ∧ u.mirror = s.mirror ∧ u.dataUnit = s.dataUnit ∧ u.number = s.number ∧ u.slot = s.slot ∧
      u.timing = s.timing := by
    rw [← hu]
    split <;> simp
  obtain ⟨hwork, hmirror, hunit, hnumber, hslot, htiming⟩ := hblocks
  have hset : settleFence a s = (u.withMirror { u.mirror with fence := some (fenceOf u a) }).withDataUnit
      { u.dataUnit with fencedEntry := if a.issuer = u.number then alertedRetry a u else none } := by
    simp only [settleFence, hholds, hstays, hin, Bool.not_false, Bool.and_self, if_true, hu]
    rw [if_neg (by simp [hwork, hopen])]
  rw [hset]
  refine ⟨by simp [hmirror, fenceOf, hslot, htiming], fun hother => by simp [hunit, hnumber, hother], fun hnone => ?_,
    fun h => ?_⟩
  · have hsame : u = s := by rw [← hu, hnone]; rfl
    simp [hsame]
  · have hsame : u = s := by
      rw [← hu]
      rcases h with h | h
      · simp [h]
      · simp [failFencedEntry, h]
    simp [hsame]

/-! ### The end of the slot at a MEMBER -/

/-- What the close of an alert reads, as it stands through the events of the slot's end before it. -/
def AlertKept (s u : State) : Prop :=
  u.membership = s.membership ∧ u.slot = s.slot ∧ u.loader = s.loader ∧ u.work.attributed = s.work.attributed ∧
    u.work.alertFailed = s.work.alertFailed

theorem AlertKept.trans {s u v : State} (h : AlertKept s u) (h' : AlertKept u v) : AlertKept s v := by
  obtain ⟨hmembership, hslot, hloader, hattributed, hfailed⟩ := h
  obtain ⟨hmembership', hslot', hloader', hattributed', hfailed'⟩ := h'
  exact ⟨hmembership'.trans hmembership, hslot'.trans hslot, hloader'.trans hloader, hattributed'.trans hattributed,
    hfailed'.trans hfailed⟩

theorem retireDone_alertKept (closing : Bool) (s : State) : AlertKept s (retireDone closing s) := by
  unfold AlertKept
  rw [retireDone_work]
  simp

theorem captureBurst_alertKept (data : BurstData) (check : Byte) (s : State) : AlertKept s (captureBurst data check s) := by
  unfold captureBurst
  split
  · exact ⟨rfl, rfl, rfl, rfl, rfl⟩
  · dsimp only
    split
    · refine .trans ?_ (retireDone_alertKept _ _)
      simp [AlertKept]
    · simp [AlertKept]

/-- The samples that a MEMBER takes of its own lines, where its presence and the ready line are sampled already. -/
theorem defaultSamples_settled {s : State} (hpresence : s.lines.presence = true → inRoster s.membership.roster s.number = true)
    (hready : s.lines.ready = true → s.lines.readySample = true) :
    defaultSamples s = s ∨ defaultSamples s = takeQuiet false s := by
  have hrise : (s.lines.presence && !inRoster s.membership.roster s.number) = false := by
    cases hp : s.lines.presence <;> simp [hpresence, hp]
  have hrose : (s.lines.ready && !s.lines.readySample) = false := by
    cases hr : s.lines.ready <;> simp [hready, hr]
  simp only [defaultSamples, hrise, hrose, if_false, Bool.false_eq_true]
  split
  · exact .inr rfl
  · exact .inl rfl

/-- At a MEMBER that has observed its slot's command and takes no alert of the memory, the slot's end closes the alert of a
state that keeps what the close reads, and nothing later touches the fence. -/
theorem settleSlot_closesAlert {s : State} (hstate : s.membership.state = .member) (hended : s.work.ended = true)
    (hobserved : s.work.observed.isSome = true) (hline : s.memory.alertLine = ⟨false, false⟩)
    (hpresence : s.lines.presence = true → inRoster s.membership.roster s.number = true)
    (hready : s.lines.ready = true → s.lines.readySample = true) :
    ∃ u, AlertKept s u ∧ (settleSlot s).mirror = (closeAlert u).mirror ∧ (settleSlot s).dataUnit = (closeAlert u).dataUnit := by
  generalize hv : defaultSamples s = v
  have hsampled : AlertKept s v ∧ v.memory = s.memory ∧ v.work.observed = s.work.observed := by
    rcases defaultSamples_settled hpresence hready with h | h <;> rw [← hv, h] <;> simp [AlertKept]
  obtain ⟨hkept, hmemory, hseen⟩ := hsampled
  have ⟨hmembership, _⟩ := hkept
  have hrecord : defaultRecord v = v := by simp [defaultRecord, hmembership, hstate]
  have hcommand : defaultCommandAlert v = v := by simp [defaultCommandAlert, hmemory, hline]
  have hwrite : defaultWriteAlert v = v := by simp [defaultWriteAlert, hmemory, hline]
  have hobserve : defaultObserve v = v := by simp [defaultObserve, hseen, hobserved]
  have hcapture : AlertKept v (defaultCapture v) := by
    unfold defaultCapture
    split
    · exact ⟨rfl, rfl, rfl, rfl, rfl⟩
    · exact captureBurst_alertKept _ _ _
  have hwindows : AlertKept v (defaultWindows (defaultCapture v)) := by
    refine hcapture.trans ?_
    unfold defaultWindows
    split <;> simp [AlertKept]
  generalize hu : defaultWindows (defaultCapture v) = u at hwindows
  have hsettle : settleSlot s =
      settleAccount (recastVote (countIdle (defaultState (retireDone true (countPeriod (closeAlert u)))))) := by
    unfold settleSlot
    dsimp only
    rw [reachEnd_ended hended, hv, hrecord, hcommand, hwrite, hobserve, hu]
  have ⟨hstate', _⟩ := hkept.trans hwindows
  have hstays : defaultState (retireDone true (countPeriod (closeAlert u))) =
      retireDone true (countPeriod (closeAlert u)) := by
    simp [defaultState, listenWaitDue, detachDue, drainDue, hstate', hstate]
  refine ⟨u, hkept.trans hwindows, ?_, ?_⟩ <;> rw [hsettle, hstays] <;> simp

/-- Settles O28: the attribution, the close of the alert by the state, and the end of a MEMBER's slot. -/
theorem writeCheckAlertSetsFence : Obligations.WriteCheckAlertSetsFence := by
  unfold Obligations.WriteCheckAlertSetsFence
  refine ⟨fun s a hlane hended hfresh hrecord ha hissued hwindow => ?_, fun s hended hfresh hrecord hnone => ?_,
    fun s a ha hother hopen => ⟨fun hholds hleaving => ?_, fun hholds => ?_⟩,
    fun s a hpending hstate hended ha hopen hother hin hobserved hline hpresence hready => ?_⟩
  · refine ⟨_, exec_writeCheckAlert hended hfresh, ?_⟩
    rw [writeCheckAlert_attributed hlane hrecord ha hissued hwindow]
    refine ⟨by simp [OuterKept, alertAttributed], by simp [alertAttributed], by simp [alertAttributed],
      by simp [alertAttributed], by simp [alertAttributed], ?_, by simp [alertAttributed, alertedWriteOf],
      fun hother hq => ?_⟩
    · simp only [concluded, retireDone_work_fields, judgeAlerted_attributed]
      rfl
    · have hquiet : concluded (alertAttributed a s) = alertAttributed a s := by
        rw [concluded, judgeAlerted_other (s := alertAttributed a s) (a := a) false rfl hother]
        exact retireDone_open false hq
      rw [hquiet]
      exact ⟨rfl, rfl, rfl, rfl, rfl⟩
  · rw [exec_writeCheckAlert hended hfresh]
    have hwrite : attributedWrite (s.withWork { s.work with writeAlert := true }) = none :=
      attributedWrite_eq_none (s := s.withWork { s.work with writeAlert := true }) hrecord hnone
    simp [writeCheckAlert, hwrite]
  · have hstays : detaches s = false := by
      by_cases hs : s.membership.state = .leaving
      · obtain ⟨e, he, hmem, hanswered⟩ := hleaving hs
        exact detaches_of_open he hanswered hmem
      · exact detaches_of_state hs
    rw [closeAlert_attributed ha, judgeAlerted_other true ha hother]
    refine ⟨fun hin => ?_, fun hgone => ?_⟩
    · obtain ⟨hmirror, hunit, -, hquiet⟩ := settleFence_set hholds hstays hin hopen
      exact ⟨hmirror, hunit hother, hquiet⟩
    · exact ⟨_, settleFence_gone hholds hstays hgone, faultNoted_recordFault .orphanWrite (stationDetail a.issuer) s⟩
  · rw [closeAlert_attributed ha, judgeAlerted_other true ha hother, settleFence_unheld hholds]
  · obtain ⟨u, ⟨hmembership, hslot, hloader, hattributed, hfailed⟩, hmirror, hunit⟩ :=
      settleSlot_closesAlert hstate hended hobserved hline hpresence hready
    have hnumber : u.number = s.number := by simp [State.number, hloader]
    have htiming : u.timing = s.timing := by simp [State.timing, State.settings, hloader]
    have hother' : a.issuer ≠ u.number := by rwa [hnumber]
    have hclose : closeAlert u = settleFence a u := by
      rw [closeAlert_attributed (hattributed.trans ha), judgeAlerted_other true (hattributed.trans ha) hother']
    obtain ⟨hset, hentry, -, -⟩ := settleFence_set (s := u) (a := a) (by rw [hmembership, hstate]; rfl)
      (detaches_of_state (by rw [hmembership, hstate]; simp)) (by rw [hmembership, hin]) (by rw [hfailed, hopen])
    obtain ⟨-, hmirror', -, -, -, -, -, -, -, hunit', -⟩ := opened_blocks (settleSlot s) (settledMemory s)
    rw [← endSlot_eq (by simp [hstate])] at hmirror' hunit'
    refine ⟨endSlot s, step_empty hpending, ?_, ?_⟩
    · rw [hunit', hunit, hclose, hentry hother']
    · rw [hmirror', hmirror, hclose, hset]
      simp [fenceOf, hslot, htiming]

/-! ### The retry of the alerted entry (R97, R181) -/

/-- The retry that an alerted WRITE owes. -/
def Entry.retryWrite (slot : Nat) (e : Entry) : Entry :=
  { e with
    phase := .retryWait, mem := e.mem.map fun m => { m with retryUsed := true, retrySlot := some slot } }

theorem retryWrite_eq (tag : Tag) (s : State) : retryWrite tag s =
    changeEntry tag (Entry.retryWrite s.slot)
      (s.withCounters { s.counters with writeRetries := s.counters.writeRetries + 1 }) := rfl

theorem answerAlerted_retry {s : State} {e : Entry} (hretries : retriesWrites s = true) (hunused : e.retryUsed = false) :
    answerAlerted e s = retryWrite e.tag s := by
  simp [answerAlerted, hretries, hunused]

theorem answerAlerted_fail {s : State} {e : Entry} (h : retriesWrites s = false ∨ e.retryUsed = true) :
    answerAlerted e s = failWrite e.tag (s.withWork { s.work with alertFailed := true }) := by
  rcases h with h | h <;> simp [answerAlerted, h]

/-- A failed write is its answered entry, on the station that has recorded it. -/
theorem failWrite_eq (tag : Tag) (s : State) :
    failWrite tag s = changeEntry tag (fun e => e.answer .dataError) (recordFault .writeDataError (tagDetail tag) s) := rfl

theorem retryUsed_of_mem {e : Entry} {m : MemFields} (h : e.mem = some m) : e.retryUsed = m.retryUsed := by
  simp [Entry.retryUsed, h]

/-- The entry that the alert has sent to RETRY_WAIT is the one that retries in the slot. -/
theorem alertedRetry_retryWrite {s : State} {a : Attribution} {e : Entry} {m : MemFields} (he : e ∈ s.queue)
    (hmem : e.mem = some m) (hissue : m.issueSlot = some a.slot) (hnodup : (queueTags s).Nodup)
    (hnone : ∀ x ∈ s.queue, x.retriedIn s.slot = false) : alertedRetry a (retryWrite e.tag s) = some e.tag := by
  obtain ⟨before, after, hq, hother, -⟩ := split_at_tag hnodup he
  have hqueue : (retryWrite e.tag s).queue = before ++ e.retryWrite s.slot :: after := by
    show s.queue.map (fun x => if x.tag = e.tag then x.retryWrite s.slot else x) = _
    rw [hq, map_at_tag (Entry.retryWrite s.slot) hother]
  have hbefore : before.find? (fun e => e.retriedIn s.slot && decide (e.mem.bind MemFields.issueSlot = some a.slot)) = none := by
    refine List.find?_eq_none.2 fun x hx => ?_
    simp [hnone x (by simp [hq, hx])]
  have hretried : ((e.retryWrite s.slot).retriedIn s.slot &&
      decide ((e.retryWrite s.slot).mem.bind MemFields.issueSlot = some a.slot)) = true := by
    simp [Entry.retryWrite, Entry.retriedIn, hmem, hissue]
  have hslot : (retryWrite e.tag s).slot = s.slot := by simp
  unfold alertedRetry
  rw [hqueue, hslot, List.find?_append, hbefore, Option.none_or, List.find?_cons, hretried]
  rfl

/-- Settles O29: the alert at once, the close after a failed retry, the first alert, and the states that retry no write. -/
theorem ownAlertedWriteRetriesOnce : Obligations.OwnAlertedWriteRetriesOnce := by
  unfold Obligations.OwnAlertedWriteRetriesOnce
  refine ⟨fun s a e m hretries harrived hended hfresh hrecord ha hissued hwindow hown hfind hmem hopen hnodup => ?_,
    fun s a ha hown hfailed hnone hholds hstate hin => ?_,
    fun s a e m ha hown hfind hmem hunused hretries hfailed hnone hin hquiet hnodup => ?_,
    fun s a e ha hown hfind hretries hnone hin => ?_⟩
  · have hlane : takesLane s = true := by
      rcases retriesWrites_iff.1 hretries with hs | ⟨hs, -⟩ <;> simp [takesLane, hs, harrived]
    refine ⟨_, exec_writeCheckAlert hended hfresh, ?_⟩
    rw [writeCheckAlert_attributed hlane hrecord ha hissued hwindow]
    generalize hu : alertAttributed a s = u
    have hblocks : u.queue = s.queue ∧ u.port = s.port ∧ u.counters = s.counters ∧ u.faults = s.faults ∧
        u.controller = s.controller ∧ u.work.attributed = some a ∧ u.work.alertFailed = s.work.alertFailed ∧
        u.number = s.number ∧ retriesWrites u = true := by
      rw [← hu]
      exact ⟨rfl, rfl, rfl, rfl, rfl, rfl, rfl, rfl, hretries⟩
    obtain ⟨hqueue, hport, hcounters, hfaults, hcontroller, hattributed, hfailed, hnumber, hretries'⟩ := hblocks
    have hjudged : judgeAlerted false u = if m.retryUsed then answerAlerted e u else u := by
      rw [judgeAlerted_own false hattributed (by rw [hnumber, hown]) (by rwa [hqueue]), Bool.false_or,
        alertSettled_of_retries hretries', retryUsed_of_mem hmem]
    refine ⟨by simp [OuterKept, ← hu, alertAttributed], by simp [← hu, alertAttributed], by simp [← hu, alertAttributed],
      by simp [← hu, alertAttributed], by simp [← hu, alertAttributed], ?_, fun hunused => ?_, fun hused => ?_⟩
    · simp only [concluded, retireDone_work_fields, judgeAlerted_attributed, hattributed]
    · have hquiet : concluded u = u := by
        rw [concluded, hjudged, hunused]
        exact retireDone_open (s := u) false (by unfold QueueOpen; rwa [hqueue])
      rw [hquiet]
      exact ⟨hqueue, hcounters, hfaults, hport, hcontroller, hfailed⟩
    · rw [concluded, hjudged, hused, if_pos rfl, answerAlerted_fail (.inr (by rw [retryUsed_of_mem hmem, hused])),
        failWrite_eq]
      generalize hr : recordFault .writeDataError (tagDetail e.tag) (u.withWork { u.work with alertFailed := true }) = r
      have hrblocks : r.queue = s.queue ∧ r.port = s.port ∧ r.counters = s.counters ∧ r.work.alertFailed = true := by
        rw [← hr, ← hqueue, ← hport, ← hcounters]
        exact ⟨rfl, rfl, rfl, rfl⟩
      obtain ⟨hrqueue, hrport, hrcounters, hrfailed⟩ := hrblocks
      obtain ⟨hleft, hjoining, hcounted⟩ := retireDone_changed (o := .dataError) (s := r)
        (f := fun x => x.answer .dataError) false (by unfold QueueOpen; rwa [hrqueue])
        (by unfold queueTags; rwa [hrqueue]) (by rw [hrqueue]; exact List.mem_of_find?_eq_some hfind) rfl
      refine ⟨?_, by rw [hleft, hrqueue], ?_, by rw [hcounted, hrcounters], ?_⟩
      · rw [retireDone_work]
        simpa using hrfailed
      · have hnoted := faultNoted_recordFault .writeDataError (tagDetail e.tag)
          (u.withWork { u.work with alertFailed := true })
        rw [hr] at hnoted
        rw [← hfaults]
        simpa [tagDetail] using hnoted
      · rw [hjoining, hrport]
        simp [Entry.answer, entryResponse, hmem]
  · have hin' : inRoster s.membership.roster a.issuer = true := by rwa [hown]
    rw [closeAlert_attributed ha, judgeAlerted_retired true ha hnone,
      settleFence_failed hholds (detaches_of_state hstate) hin' hfailed]
    exact ⟨rfl, rfl⟩
  · obtain ⟨hphase, m', hmem', hissue⟩ := writeIssuedIn_iff.1 (List.find?_some hfind)
    obtain rfl : m' = m := Option.some.inj (hmem'.symm.trans hmem)
    have he := List.mem_of_find?_eq_some hfind
    have hjudged : judgeAlerted true s = retryWrite e.tag s := by
      rw [judgeAlerted_own true ha hown hfind, Bool.true_or, if_pos rfl,
        answerAlerted_retry hretries (by rw [retryUsed_of_mem hmem, hunused])]
    generalize hu : retryWrite e.tag s = u at hjudged
    have hblocks : u.membership = s.membership ∧ u.mirror = s.mirror ∧ u.dataUnit = s.dataUnit ∧ u.faults = s.faults ∧
        u.port = s.port ∧ u.work = s.work ∧ u.slot = s.slot ∧ u.timing = s.timing ∧ u.number = s.number := by
      simp [← hu]
    obtain ⟨hmembership, hmirror, hunit, hfaults, hport, hwork, hslot, htiming, hnumber⟩ := hblocks
    have hqueue : u.queue = s.queue.map fun x => if x.tag = e.tag then x.retryWrite s.slot else x := by rw [← hu]; rfl
    have hstays : detaches u = false := by
      refine detaches_of_open (e := e.retryWrite s.slot) ?_ rfl (by simp [Entry.retryWrite, hmem])
      rw [hqueue]
      exact List.mem_map.2 ⟨e, he, if_pos rfl⟩
    have hretry : alertedRetry a u = some e.tag := by
      rw [← hu]
      exact alertedRetry_retryWrite he hmem hissue hnodup hquiet
    obtain ⟨hset, -, hentry, hkept⟩ := settleFence_set (s := u) (a := a)
      (by rw [hmembership]; exact holdsFence_of_retries hretries) hstays (by rw [hmembership, hown, hin])
      (by rw [hwork, hfailed])
    obtain ⟨hqueue', hfaults'⟩ := hkept (.inl (by rw [hmirror, hnone]))
    rw [closeAlert_attributed ha, hjudged]
    refine ⟨?_, by rw [hfaults', hfaults], by simp [hport], by simp [hmembership], ?_, ?_, ?_⟩
    · simp [← hu, retryWrite_eq]
    · rw [hentry (by rw [hmirror, hnone]), hunit, hretry, if_pos (by rw [hnumber, hown])]
    · rw [hset, hmirror]
      simp [fenceOf, hslot, htiming]
    · rw [hqueue', hqueue]
      refine List.map_congr_left fun x hx => ?_
      by_cases htag : x.tag = e.tag
      · rw [List.inj_on_of_nodup_map hnodup hx he htag, if_pos rfl, if_pos rfl]
        simp [Entry.retryWrite, hmem]
      · rw [if_neg htag, if_neg htag]
  · have hjudged : judgeAlerted true s = failWrite e.tag (s.withWork { s.work with alertFailed := true }) := by
      rw [judgeAlerted_own true ha hown hfind, Bool.true_or, if_pos rfl, answerAlerted_fail (.inl hretries)]
    generalize hu : failWrite e.tag (s.withWork { s.work with alertFailed := true }) = u at hjudged
    have hblocks : u.membership = s.membership ∧ u.mirror = s.mirror ∧ u.counters = s.counters ∧
        u.work.alertFailed = true ∧ FaultNoted .writeDataError (e.tag.setWidth 8) s.faults u.faults ∧
        u.queue = s.queue.map fun x => if x.tag = e.tag then { x with phase := .done .dataError } else x := by
      rw [← hu]
      exact ⟨rfl, rfl, rfl, rfl, faultNoted_recordFault .writeDataError (tagDetail e.tag) s, rfl⟩
    obtain ⟨hmembership, hmirror, hcounters, hfailed, hnoted, hqueue⟩ := hblocks
    have hclosed : (settleFence a u).queue = u.queue ∧ (settleFence a u).mirror.fence = none ∧
        (settleFence a u).faults = u.faults := by
      have hnone' : u.mirror.fence = none := by rw [hmirror, hnone]
      by_cases hheld : (holdsFence u.membership.state && !detaches u) = true
      · obtain ⟨hholds, hstays⟩ : holdsFence u.membership.state = true ∧ detaches u = false := by simpa using hheld
        rw [settleFence_failed hholds hstays (by rw [hmembership, hown, hin]) hfailed, hnone']
        simp [dropFence]
      · simp [settleFence, hheld, hnone']
    obtain ⟨hqueue', hfence, hfaults⟩ := hclosed
    rw [closeAlert_attributed ha, hjudged]
    exact ⟨hqueue'.trans hqueue, hfence, by simp [hcounters], by rw [hfaults]; exact hnoted⟩

end Sys2Proof.Machine
end

section
/-! PROOFS. An answer that stands until its entry has retired, and the COMMAND_ERROR alert (O27). -/

namespace Sys2Proof.Machine

/-! ### An answer that stands (R100, R188) -/

/-- An entry has been answered with an outcome: it is in DONE, as is every other of its tag, or its response has joined. -/
structure AnswerStands (e : Entry) (o : EntryOutcome) (s : State) : Prop where
  answered : ∀ x ∈ s.queue, x.tag = e.tag → x.phase.answered.isSome = true
  owed : e.answer o ∈ s.queue ∨ .retired e.order (entryResponse (e.answer o) o) ∈ s.port.joining

namespace AnswerStands

variable {e : Entry} {o : EntryOutcome} {s t : State}

theorem congr (h : AnswerStands e o s) (hqueue : t.queue = s.queue) (hport : t.port = s.port) : AnswerStands e o t :=
  ⟨by rw [hqueue]; exact h.answered, by rw [hqueue, hport]; exact h.owed⟩

/-- The answer itself. -/
theorem answerEntry (he : e ∈ s.queue) : AnswerStands e o (answerEntry e.tag o s) := by
  refine ⟨fun x hx htag => ?_, .inl (List.mem_map.2 ⟨e, he, if_pos rfl⟩)⟩
  obtain ⟨y, hy, rfl⟩ := List.mem_map.1 hx
  by_cases hy' : y.tag = e.tag
  · rw [if_pos hy']
    rfl
  · rw [if_neg hy'] at htag
    exact absurd htag hy'

/-- A change of another entry. -/
theorem changeEntry {tag : Tag} {f : Entry → Entry} (h : AnswerStands e o s) (hother : tag ≠ e.tag)
    (hf : ∀ x, (f x).tag = x.tag) : AnswerStands e o (changeEntry tag f s) := by
  refine ⟨fun x hx htag => ?_, h.owed.imp (fun hin => ?_) id⟩
  · obtain ⟨y, hy, rfl⟩ := List.mem_map.1 hx
    by_cases hy' : y.tag = tag
    · rw [if_pos hy', hf] at htag
      exact absurd (hy'.symm.trans htag) hother
    · rw [if_neg hy'] at htag ⊢
      exact h.answered y hy htag
  · exact List.mem_map.2 ⟨e.answer o, hin, if_neg fun heq => hother heq.symm⟩

theorem failWrite {tag : Tag} (h : AnswerStands e o s) (hother : tag ≠ e.tag) : AnswerStands e o (failWrite tag s) :=
  (h.changeEntry (f := fun x => x.answer .dataError) hother fun _ => rfl).congr rfl rfl

/-- What is answered and does not stay has its response among those of the slot. -/
theorem mem_retireWalk {slot : Nat} {closing older : Bool} {q : List Entry} {x : Entry} (hx : x ∈ q)
    (h : x.phase.answered = some o) : (x, o) ∈ (retireWalk slot closing older q).2 := by
  induction q generalizing older with
  | nil => simp at hx
  | cons y rest ih =>
    rcases List.mem_cons.1 hx with rfl | hx
    · simp [retireWalk_cons_answered h]
    · cases hy : retiresWith slot closing older y <;> simp [retireWalk, hy, ih hx]

/-- After a retirement the response has joined. -/
theorem joined (closing : Bool) (h : AnswerStands e o s) :
    .retired e.order (entryResponse (e.answer o) o) ∈ (retireDone closing s).port.joining ∧
      ∀ x ∈ (retireDone closing s).queue, x.tag ≠ e.tag := by
  obtain ⟨-, hjoining, -⟩ := retireDone_walk closing s
  refine ⟨?_, fun x hx htag => ?_⟩
  · rw [hjoining]
    rcases h.owed with hin | hin
    · exact mem_joinAll (p := (e.answer o, o)) (mem_retireWalk hin rfl) s.port.joining
    · exact (joinAll_sublist _ _).subset hin
  · obtain ⟨hmem, hopen⟩ := retireDone_remaining hx
    have hanswered := h.answered x hmem htag
    simp [hopen] at hanswered

theorem retireDone (closing : Bool) (h : AnswerStands e o s) : AnswerStands e o (retireDone closing s) := by
  obtain ⟨hjoined, hgone⟩ := h.joined closing
  exact ⟨fun x hx htag => absurd htag (hgone x hx), .inr hjoined⟩

theorem loseWriteRetries (h : AnswerStands e o s) : AnswerStands e o (loseWriteRetries s) := by
  have hother : ∀ x ∈ s.queue.filter Entry.isWriteRetry, x.tag ≠ e.tag := by
    intro x hx htag
    obtain ⟨hmem, hretry⟩ := List.mem_filter.1 hx
    have hanswered := h.answered x hmem htag
    have hphase : x.phase = .retryWait := by
      unfold Entry.isWriteRetry at hretry
      split at hretry
      · simp at hretry
      · simp only [Bool.and_eq_true, decide_eq_true_eq] at hretry
        exact hretry.left
    simp [hphase, Phase.answered] at hanswered
  unfold Machine.loseWriteRetries
  generalize s.queue.filter Entry.isWriteRetry = es at hother
  induction es generalizing s with
  | nil => exact h
  | cons x rest ih =>
    obtain ⟨hx, hrest⟩ := List.forall_mem_cons.1 hother
    exact ih ((h.failWrite hx).congr (t := loseWriteRetry x s) (by simp [loseWriteRetry]) (by simp [loseWriteRetry])) hrest

theorem loseTrust (h : AnswerStands e o s) : AnswerStands e o (loseTrust s) := by
  rw [loseTrust_eq]
  have hdoubted : AnswerStands e o (withdrawVote (emptyTable (doubtMirror (countTrust s)))) := h.congr rfl rfl
  exact hdoubted.loseWriteRetries.retireDone false

theorem judgeAlerted (closing : Bool) (h : AnswerStands e o s) : AnswerStands e o (judgeAlerted closing s) := by
  unfold Machine.judgeAlerted
  split
  · exact h
  · split
    · split
      · exact h
      · next a _ _ x hfind =>
        split
        · obtain ⟨hphase, -⟩ := writeIssuedIn_iff.1 (List.find?_some hfind)
          have hother : x.tag ≠ e.tag := by
            intro htag
            have hanswered := h.answered x (List.mem_of_find?_eq_some hfind) htag
            simp [hphase, Phase.answered] at hanswered
          unfold answerAlerted
          split
          · exact (h.congr (t := s.withCounters { s.counters with writeRetries := s.counters.writeRetries + 1 }) rfl
              rfl).changeEntry hother fun _ => rfl
          · exact (h.congr (t := s.withWork { s.work with alertFailed := true }) rfl rfl).failWrite hother
        · exact h
    · exact h

theorem takeDoubt (h : AnswerStands e o s) : AnswerStands e o (takeDoubt s) := by
  unfold Machine.takeDoubt
  split
  · exact (h.congr (t := setState .resync s) rfl rfl).loseTrust
  · split
    · exact h
    · exact (h.congr (t := s.withMembership { s.membership with leaveDoubt := true }) rfl rfl).loseTrust
  · exact h.congr rfl rfl
  all_goals exact h

theorem takeCommandAlert (h : AnswerStands e o s) : AnswerStands e o (takeCommandAlert s) := by
  unfold Machine.takeCommandAlert
  dsimp only
  split
  · exact h.congr (by simp) (by simp)
  · refine takeDoubt ?_
    split
    · exact h.congr rfl rfl
    · exact h

end AnswerStands

/-! ### The COMMAND_ERROR alert (R78, R178) -/

theorem exec_commandErrorAlert {s : State} (hlane : takesLane s = true) (hended : s.work.ended = true)
    (hfresh : s.work.commandAlert = false) :
    exec .commandErrorAlert s =
      .next (concluded (takeCommandAlert (refuseOwnWrite (s.withWork { s.work with commandAlert := true })))) := by
  have hexec : exec .commandErrorAlert s = .next (commandErrorAlert s) := by
    show Host.Outcome.next (commandErrorAlert (reachEnd (beforeOnce s.work.commandAlert s))) = _
    rw [hfresh]
    exact congrArg (fun u => Host.Outcome.next (commandErrorAlert u)) (reachEnd_ended hended)
  have hlane' : takesLane (s.withWork { s.work with commandAlert := true }) = true := hlane
  rw [hexec, commandErrorAlert, if_pos hlane']
  rfl

theorem judgeAlerted_faults (closing : Bool) (s : State) : FaultsGrow s.faults (judgeAlerted closing s).faults := by
  unfold judgeAlerted answerAlerted
  split
  · exact .refl
  · split
    · split
      · exact .refl
      · next a _ _ e _ =>
        split
        · split
          · exact .refl
          · exact FaultsGrow.recordFault .writeDataError (tagDetail e.tag) s
        · exact .refl
    · exact .refl

theorem concluded_faults (u : State) : FaultsGrow u.faults (concluded u).faults := by
  have hsame : (concluded u).faults = (judgeAlerted false u).faults := by simp [concluded]
  rw [hsame]
  exact judgeAlerted_faults false u

theorem concluded_resyncs (u : State) : (concluded u).counters.resyncs = u.counters.resyncs := by
  rw [concluded, retireDone_counters]
  exact judgeAlerted_counted false u

/-- The own WRITE that an alert answers is the one of two slots earlier. -/
theorem refuseOwnWrite_none {s : State} (h : ∀ e ∈ s.queue, writeIssuedIn (s.slot - 2) e = false) : refuseOwnWrite s = s := by
  have hnone : s.queue.find? (fun e => decide (2 ≤ s.slot) && writeIssuedIn (s.slot - 2) e) = none :=
    List.find?_eq_none.2 fun e he => by simp [h e he]
  unfold refuseOwnWrite
  rw [hnone]

theorem refuseOwnWrite_some {s : State} {e : Entry} (hslot : 2 ≤ s.slot)
    (h : s.queue.find? (writeIssuedIn (s.slot - 2)) = some e) : refuseOwnWrite s = clearFenceOver e (failWrite e.tag s) := by
  have hfind : s.queue.find? (fun e => decide (2 ≤ s.slot) && writeIssuedIn (s.slot - 2) e) = some e := by
    rw [← h]
    congr 1
    funext x
    simp [hslot]
  unfold refuseOwnWrite
  rw [hfind]

theorem refuseOwnWrite_mirror (s : State) : (refuseOwnWrite s).mirror.kept = s.mirror.kept ∧
    (refuseOwnWrite s).mirror.known = s.mirror.known := by
  unfold refuseOwnWrite clearFenceOver
  (repeat' split) <;> simp [dropFence]

/-- What an alert at a WRITE of the station's own adds to the faults: WRITE_DATA_ERROR and no other kind. -/
def OnlyWriteErrors (a b : FaultRecord) : Prop :=
  FaultsGrow a b ∧ b.kinds &&& FaultKind.commandAlert.bit = a.kinds &&& FaultKind.commandAlert.bit

theorem OnlyWriteErrors.refl {a : FaultRecord} : OnlyWriteErrors a a := ⟨.refl, rfl⟩

theorem OnlyWriteErrors.trans {a b c : FaultRecord} (h : OnlyWriteErrors a b) (h' : OnlyWriteErrors b c) :
    OnlyWriteErrors a c := ⟨h.left.trans h'.left, h'.right.trans h.right⟩

theorem OnlyWriteErrors.recordFault (d : Byte) (s : State) :
    OnlyWriteErrors s.faults (recordFault .writeDataError d s).faults := by
  refine ⟨FaultsGrow.recordFault .writeDataError d s, ?_⟩
  show (s.faults.kinds ||| FaultKind.writeDataError.bit) &&& FaultKind.commandAlert.bit = _
  have hdisjoint : FaultKind.writeDataError.bit &&& FaultKind.commandAlert.bit = 0#_ := by decide
  rw [BitVec.and_or_distrib_right, hdisjoint, BitVec.or_zero]

theorem refuseOwnWrite_faults (s : State) : OnlyWriteErrors s.faults (refuseOwnWrite s).faults := by
  unfold refuseOwnWrite
  split
  · exact .refl
  · next e _ =>
    have hsame : (clearFenceOver e (failWrite e.tag s)).faults = (failWrite e.tag s).faults := by simp
    rw [hsame]
    exact OnlyWriteErrors.recordFault (tagDetail e.tag) (answerEntry e.tag .dataError s)

theorem judgeAlerted_writeErrors (closing : Bool) (s : State) : OnlyWriteErrors s.faults (judgeAlerted closing s).faults := by
  refine ⟨judgeAlerted_faults closing s, ?_⟩
  unfold judgeAlerted answerAlerted
  split
  · rfl
  · split
    · split
      · rfl
      · next a _ _ e _ =>
        split
        · split
          · rfl
          · exact (OnlyWriteErrors.recordFault (tagDetail e.tag) s).right
        · rfl
    · rfl

theorem enterListening_grow (s : State) : FaultsGrow s.faults (enterListening s).faults := by
  rw [enterListening_faults]
  rcases stopAccount_faults s with h | ⟨d, h⟩ <;> rw [h]
  · exact .refl
  · exact FaultsGrow.recordFault .refreshOverrun d s

/-- The station with the alert recorded. -/
def commandAlertNoted (s : State) : State := recordFault .commandAlert (optionalDetail (issuerTwoBack s)) s

theorem takeCommandAlert_recorded {s : State} (h : recordsDoubt s = true) :
    takeCommandAlert s = takeDoubt (commandAlertNoted s) := by
  unfold takeCommandAlert
  dsimp only
  split
  · next hs => simp [recordsDoubt, hs] at h
  · rw [if_pos h]
    rfl

theorem takeCommandAlert_initializing {s : State} (h : s.membership.state = .initializing) :
    takeCommandAlert s = enterListening (commandAlertNoted s) := by
  unfold takeCommandAlert
  rw [h]
  rfl

theorem takeCommandAlert_listening {s : State} (h : s.membership.state = .listening) :
    takeCommandAlert s = doubtMirror s := by
  simp [takeCommandAlert, h, recordsDoubt, takeDoubt]

/-- A station that neither compares nor initializes takes the alert without a doubt, where the slot has cast none. -/
theorem takeCommandAlert_settled {s : State} (hundoubted : s.work.doubted = none)
    (h : s.membership.state = .resync ∨ s.membership.state = .draining ∨ s.membership.state = .detached ∨
      s.membership.state = .withdrawn ∨ (s.membership.state = .leaving ∧ s.membership.leaveDoubt = true)) :
    takeCommandAlert s = s := by
  rcases h with h | h | h | h | ⟨h, hdoubt⟩
  case inr.inr.inr.inr => simp [takeCommandAlert, h, recordsDoubt, takeDoubt, hdoubt, hundoubted]
  all_goals simp [takeCommandAlert, h, recordsDoubt, takeDoubt, hundoubted]

/-- The states that take the lane are those of the five clauses of the alert. -/
theorem alertState_cases {s : State} (h : takesLane s = true) :
    s.membership.state = .member ∨ (s.membership.state = .leaving ∧ s.membership.leaveDoubt = false) ∨
      s.membership.state = .initializing ∨ s.membership.state = .listening ∨
      (s.membership.state = .resync ∨ s.membership.state = .draining ∨ s.membership.state = .detached ∨
        s.membership.state = .withdrawn ∨ (s.membership.state = .leaving ∧ s.membership.leaveDoubt = true)) := by
  unfold takesLane at h
  cases hs : s.membership.state <;> simp [hs] at h ⊢

theorem takeCommandAlert_kept {s : State} (h : takesLane s = true) (hundoubted : s.work.doubted = none) :
    (takeCommandAlert s).mirror.kept = s.mirror.kept := by
  rcases alertState_cases h with hs | ⟨hs, hdoubt⟩ | hs | hs | hs
  · rw [takeCommandAlert_recorded (by simp [recordsDoubt, hs]), takeDoubt_member (s := commandAlertNoted s) hs]
    exact (enterResync_lost (commandAlertNoted s)).kept
  · rw [takeCommandAlert_recorded (by simp [recordsDoubt, hs, hdoubt]),
      takeDoubt_leaving (s := commandAlertNoted s) hs hdoubt]
    exact (setLeaveDoubt_lost (commandAlertNoted s)).kept
  · rw [takeCommandAlert_initializing hs, enterListening_mirror]
    rfl
  · rw [takeCommandAlert_listening hs]
    rfl
  · rw [takeCommandAlert_settled hundoubted hs]

/-- An alert that is recorded stays recorded, and first where nothing was recorded before it. -/
theorem takeCommandAlert_noted {s : State}
    (h : s.membership.state = .member ∨ (s.membership.state = .leaving ∧ s.membership.leaveDoubt = false) ∨
      s.membership.state = .initializing) : FaultsGrow (commandAlertNoted s).faults (takeCommandAlert s).faults := by
  rcases h with hs | ⟨hs, hdoubt⟩ | hs
  · rw [takeCommandAlert_recorded (by simp [recordsDoubt, hs]), takeDoubt_member (s := commandAlertNoted s) hs]
    exact (enterResync_lost (commandAlertNoted s)).faults
  · rw [takeCommandAlert_recorded (by simp [recordsDoubt, hs, hdoubt]),
      takeDoubt_leaving (s := commandAlertNoted s) hs hdoubt]
    exact (setLeaveDoubt_lost (commandAlertNoted s)).faults
  · rw [takeCommandAlert_initializing hs]
    exact enterListening_grow (commandAlertNoted s)

theorem takeCommandAlert_grow {s : State} (h : takesLane s = true) (hundoubted : s.work.doubted = none) :
    FaultsGrow s.faults (takeCommandAlert s).faults := by
  have hnoted : FaultsGrow s.faults (commandAlertNoted s).faults := FaultsGrow.recordFault .commandAlert _ s
  rcases alertState_cases h with hs | hs | hs | hs | hs
  · exact hnoted.trans (takeCommandAlert_noted (.inl hs))
  · exact hnoted.trans (takeCommandAlert_noted (.inr (.inl hs)))
  · exact hnoted.trans (takeCommandAlert_noted (.inr (.inr hs)))
  · rw [takeCommandAlert_listening hs]
    exact .refl
  · rw [takeCommandAlert_settled hundoubted hs]
    exact .refl

theorem commandAlertNoted_detail {s : State} {k : KeptFields} (hobserved : s.work.observed = none)
    (hkept : s.mirror.kept = some k) : FaultNoted .commandAlert (optionalDetail k.olderIssuer) s.faults (commandAlertNoted s).faults := by
  have hissuer : issuerTwoBack s = k.olderIssuer := by simp [issuerTwoBack, hobserved, hkept]
  unfold commandAlertNoted
  rw [hissuer]
  exact faultNoted_recordFault .commandAlert (optionalDetail k.olderIssuer) s

/-- Settles O27: the refused WRITE first, then the doubt by the station state, and what the two leave retires. -/
theorem commandErrorAlertDoubtsMirror : Obligations.CommandErrorAlertDoubtsMirror := by
  unfold Obligations.CommandErrorAlertDoubtsMirror
  intro s k hlane hfresh hundoubted hobserved hended hkept
  generalize hr : refuseOwnWrite (s.withWork { s.work with commandAlert := true }) = r
  have hexec := exec_commandErrorAlert hlane hended hfresh
  rw [hr] at hexec
  have hblocks : OuterKept s r ∧ r.memory = s.memory ∧ r.membership = s.membership ∧ r.counters = s.counters ∧
      r.work.doubted = s.work.doubted ∧ r.work.observed = s.work.observed ∧ takesLane r = true := by
    have hlaneKept : takesLane r = takesLane s := by simp [takesLane, ← hr]
    refine ⟨by simp [OuterKept, ← hr], by simp [← hr], by simp [← hr], by simp [← hr], by simp [← hr], by simp [← hr], ?_⟩
    rw [hlaneKept, hlane]
  obtain ⟨⟨hpending, hslot, hlines, hloader⟩, hmemory, hmembership, hcounters, hdoubted, hseen, hlane'⟩ := hblocks
  rw [hundoubted] at hdoubted
  rw [hobserved] at hseen
  obtain ⟨hrkept, hrknown⟩ := refuseOwnWrite_mirror (s.withWork { s.work with commandAlert := true })
  rw [hr] at hrkept hrknown
  have hwriteErrors : OnlyWriteErrors s.faults r.faults := by
    rw [← hr]
    exact refuseOwnWrite_faults (s.withWork { s.work with commandAlert := true })
  obtain ⟨hgrown, hbit⟩ := hwriteErrors
  have hend := concluded_faults (takeCommandAlert r)
  refine ⟨_, hexec, ?_, by simp [OuterKept, hpending, hslot, hlines, hloader], by simp [hmemory], fun hs => ?_,
    fun hs hdoubt => ?_, fun hs => ?_, fun hs => ?_, fun hs => ?_, fun hs => ?_, fun e hlate hfind => ?_⟩
  · have hfields : (takeCommandAlert r).mirror.kept = s.mirror.kept :=
      (takeCommandAlert_kept hlane' hdoubted).trans hrkept
    simpa using hfields
  · have hmember : r.membership.state = .member := by rw [hmembership, hs]
    rw [takeCommandAlert_recorded (by simp [recordsDoubt, hmember]), takeDoubt_member (s := commandAlertNoted r) hmember]
    have hlost := enterResync_lost (commandAlertNoted r)
    refine ⟨by simp [enterResync_membership, commandAlertNoted, hmembership], by simp [hlost.known],
      by simp [hlost.reservations], by simp [hlost.vote], ?_⟩
    rw [concluded_resyncs, hlost.resyncs hdoubted, ← hcounters]
    rfl
  · have hleaving : r.membership.state = .leaving ∧ r.membership.leaveDoubt = false := by rw [hmembership]; exact ⟨hs, hdoubt⟩
    obtain ⟨hstate, htrusted⟩ := hleaving
    rw [takeCommandAlert_recorded (by simp [recordsDoubt, hstate, htrusted]),
      takeDoubt_leaving (s := commandAlertNoted r) hstate htrusted]
    have hlost := setLeaveDoubt_lost (commandAlertNoted r)
    exact ⟨by simp [setLeaveDoubt_membership, commandAlertNoted, hmembership], by simp [hlost.known],
      by simp [hlost.reservations]⟩
  · rw [takeCommandAlert_initializing (by rw [hmembership, hs])]
    simp [enterListening_membership, enterListening_mirror]
  · rw [takeCommandAlert_listening (by rw [hmembership, hs])]
    simp [doubtMirror, hmembership]
  · rw [takeCommandAlert_settled hdoubted (by rwa [hmembership])]
    refine ⟨by simp [hmembership], by simp [hrknown], ?_⟩
    have hjudged := (judgeAlerted_writeErrors false r).right
    have hsame : (concluded r).faults = (judgeAlerted false r).faults := by simp [concluded]
    rw [hsame, hjudged, hbit]
  · obtain ⟨hkinds, hfirst⟩ := (takeCommandAlert_noted (by rwa [hmembership])).trans hend
    refine ⟨hkinds _ (faultStands_add .commandAlert (optionalDetail (issuerTwoBack r)) r.faults), fun hnone => ?_⟩
    have hfaults : r.faults = s.faults := by
      rw [← hr, refuseOwnWrite_none (s := s.withWork { s.work with commandAlert := true }) hnone]
      rfl
    obtain ⟨-, hnoted, -⟩ := commandAlertNoted_detail hseen (hrkept.trans hkept)
    rw [hfaults] at hnoted
    rw [hfirst _ hnoted]
    cases k.olderIssuer <;> rfl
  · have hrefused := refuseOwnWrite_some (s := s.withWork { s.work with commandAlert := true }) hlate hfind
    rw [hr] at hrefused
    have he : e ∈ s.queue := List.mem_of_find?_eq_some hfind
    have hstands : AnswerStands e .dataError r := by
      rw [hrefused]
      have hanswered : AnswerStands e .dataError (failWrite e.tag (s.withWork { s.work with commandAlert := true })) :=
        (AnswerStands.answerEntry (s := s.withWork { s.work with commandAlert := true }) he).congr rfl rfl
      exact hanswered.congr (by simp) (by simp)
    obtain ⟨hjoined, hgone⟩ := ((hstands.takeCommandAlert).judgeAlerted false).joined false
    refine ⟨hgone, ?_, fun m hm => ?_⟩
    · have hrecorded : FaultStands .writeDataError r.faults := by
        rw [hrefused]
        have hsame (u : State) : (clearFenceOver e u).faults = u.faults := by simp
        rw [hsame]
        exact faultStands_add .writeDataError (tagDetail e.tag) s.faults
      have htaken : FaultsGrow r.faults (takeCommandAlert r).faults := takeCommandAlert_grow hlane' hdoubted
      exact (htaken.trans hend).left _ hrecorded
    · simpa [concluded, entryResponse, Entry.answer, hm] using hjoined

end Sys2Proof.Machine
end

section
/-! PROOFS. Accepted requests, and the FENCE with nothing in front of it through the end of its slot (O42). -/

namespace Sys2Proof.Machine

/-! ### The read-back of a won command phase (R138, R139) -/

/-- The station that has read back a word. -/
def wordRead (w : LaneBits) (s : State) : State := s.withWork { s.work with readBack := some w }

theorem readBack_equal {s : State} {k : Claim} (h : wonClaim s = some k) :
    readBack (drivenWord s k.candidate) s = takeIssue k.candidate (wordRead (drivenWord s k.candidate) s) := by
  unfold readBack
  rw [h]
  exact if_pos rfl

theorem readBack_differs {s : State} {k : Claim} {w : LaneBits} (h : wonClaim s = some k)
    (hw : w ≠ drivenWord s k.candidate) : readBack w s = claimFault w (wordRead w s) := by
  unfold readBack
  rw [h]
  exact if_neg hw

/-! ### Steps that meet no memory request -/

/-- Every entry of the queue is a FENCE that waits. -/
def OnlyFences (s : State) : Prop := ∀ x ∈ s.queue, x.mem = none ∧ x.phase = .waiting

theorem OnlyFences.noWrite {s : State} (h : OnlyFences s) (slot : Nat) : s.queue.find? (writeIssuedIn slot) = none := by
  refine List.find?_eq_none.2 fun x hx => ?_
  obtain ⟨-, hphase⟩ := h x hx
  simp [writeIssuedIn, hphase]

theorem OnlyFences.judgeAlerted {s : State} (h : OnlyFences s) (closing : Bool) : judgeAlerted closing s = s := by
  cases ha : s.work.attributed with
  | none => exact judgeAlerted_none closing ha
  | some a => exact judgeAlerted_retired closing ha (h.noWrite a.slot)

theorem OnlyFences.failFencedEntry {s : State} (h : OnlyFences s) : failFencedEntry s = s := by
  unfold Machine.failFencedEntry
  split
  · rfl
  · next tag _ =>
    split
    · rfl
    · next e hfind =>
      obtain ⟨-, hphase⟩ := h e (List.mem_of_find?_eq_some hfind)
      rw [if_neg (by simp [hphase])]

theorem OnlyFences.loseWriteRetries {s : State} (h : OnlyFences s) : loseWriteRetries s = s := by
  have hnone : s.queue.filter Entry.isWriteRetry = [] := by
    refine List.filter_eq_nil_iff.2 fun x hx => ?_
    obtain ⟨hmem, -⟩ := h x hx
    simp [Entry.isWriteRetry, hmem]
  rw [Machine.loseWriteRetries, hnone]
  rfl

theorem OnlyFences.refuseOwnWrite {s : State} (h : OnlyFences s) : refuseOwnWrite s = s := by
  refine refuseOwnWrite_none fun x hx => ?_
  obtain ⟨-, hphase⟩ := h x hx
  simp [writeIssuedIn, hphase]

theorem OnlyFences.captureBurst {s : State} (h : OnlyFences s) (data : BurstData) (check : Byte) :
    captureBurst data check s = s := by
  have hnone : captureOf s = none := by
    refine List.findSome?_eq_none_iff.2 fun x hx => ?_
    obtain ⟨hmem, hphase⟩ := h x hx
    simp [captureOfEntry, hphase]
  unfold Machine.captureBurst
  rw [hnone]

theorem OnlyFences.windowDue {s : State} (h : OnlyFences s) : windowDue s = false := by
  refine List.any_eq_false.2 fun x hx => ?_
  obtain ⟨-, hphase⟩ := h x hx
  simp [windowExpired, hphase]

theorem selectAll_fences {s : State} {k : KeptFields} {m : KnownMirror} {older q : List Entry} (h : ∀ x ∈ q, x.mem = none) :
    selectAll s k m older q = q := by
  induction q generalizing older with
  | nil => rfl
  | cons x rest ih =>
    obtain ⟨hx, hrest⟩ := List.forall_mem_cons.1 h
    simp [selectAll, selectEntry, hx, ih hrest]

theorem OnlyFences.selectQueue {s : State} (h : OnlyFences s) : selectQueue s = s.queue := by
  have hall (k : KeptFields) (m : KnownMirror) : selectAll s k m [] s.queue = s.queue :=
    selectAll_fences fun x hx => (h x hx).left
  unfold Machine.selectQueue
  split
  · split
    · exact hall _ _
    · rfl
  · rfl

theorem OnlyFences.takeIssue {s : State} (h : OnlyFences s) (c : Candidate) : (takeIssue c s).queue = s.queue := by
  unfold Machine.takeIssue
  split
  · split
    · split
      · rfl
      · next e hfind =>
        obtain ⟨hmem, -⟩ := h e (List.mem_of_find?_eq_some hfind)
        rw [hmem]
    · rfl
  all_goals split <;> rfl

theorem OnlyFences.heard {s : State} (h : OnlyFences s) (o : Observed) : (heard o s).queue = s.queue := by
  rw [heard_queue_map]
  conv_rhs => rw [← List.map_id s.queue]
  refine List.map_congr_left fun x hx => ?_
  obtain ⟨hmem, -⟩ := h x hx
  simp [ageEntry, hmem]

theorem OnlyFences.expireFence {s : State} (h : OnlyFences s) : (expireFence s).queue = s.queue := by
  have hfenced : Machine.failFencedEntry (expireAlerted s) = expireAlerted s :=
    OnlyFences.failFencedEntry (s := expireAlerted s) (by simpa [OnlyFences] using h)
  unfold Machine.expireFence
  dsimp only
  split
  · simp
  · split
    · rw [hfenced]
      (repeat' split) <;> simp [dropFence]
    · simp

/-! ### The lone FENCE through the end of its slot (R103) -/

/-- The response of a FENCE that retires (R103, R105). -/
def fenceResponse (f : Entry) : Response := { kind := .retired .ok, requestKind := 4, tag := f.tag, thread := 0, data := [] }

/-- A MEMBER, or a station in RESYNC, whose queue holds one FENCE, or none where that has retired. -/
structure LoneFence (f : Entry) (s : State) : Prop where
  state : s.membership.state = .member ∨ s.membership.state = .resync
  fence : f.mem = none ∧ f.phase = .waiting
  stands : s.queue = [f] ∨ (s.queue = [] ∧ .retired f.order (fenceResponse f) ∈ s.port.joining)

namespace LoneFence

variable {f : Entry} {s t : State}

theorem onlyFences (h : LoneFence f s) : OnlyFences s := by
  intro x hx
  rcases h.stands with hq | ⟨hq, -⟩ <;> rw [hq] at hx
  · rw [List.mem_singleton.1 hx]
    exact h.fence
  · simp at hx

theorem congr (h : LoneFence f s) (hstate : t.membership.state = s.membership.state) (hqueue : t.queue = s.queue)
    (hport : t.port = s.port) : LoneFence f t :=
  ⟨by rw [hstate]; exact h.state, h.fence, by rw [hqueue, hport]; exact h.stands⟩

theorem ite {c : Prop} [Decidable c] (hs : LoneFence f s) (ht : LoneFence f t) : LoneFence f (if c then s else t) := by
  split
  · exact hs
  · exact ht

theorem retireWalk_fence {slot : Nat} {closing : Bool} (h : f.mem = none ∧ f.phase = .waiting) :
    retireWalk slot closing false [f] = ([f], []) ∨ retireWalk slot closing false [f] = ([], [(f, .ok)]) := by
  obtain ⟨hmem, hphase⟩ := h
  by_cases hdue : closing = true ∨ f.joined < slot
  · have hretires : retiresWith slot closing false f = some .ok := by
      simp [retiresWith, hphase, hmem, Phase.answered, hdue]
    simp [retireWalk, hretires]
  · have hstays : retiresWith slot closing false f = none := by
      simpa [retiresWith, hphase, hmem, Phase.answered] using hdue
    simp [retireWalk, hstays]

theorem entryResponse_fence (h : f.mem = none) : entryResponse f .ok = fenceResponse f := by
  simp [entryResponse, h, fenceResponse, fenceCode]

theorem retireDone (closing : Bool) (h : LoneFence f s) : LoneFence f (retireDone closing s) := by
  obtain ⟨hqueue, hjoining, -⟩ := retireDone_walk closing s
  refine ⟨by simpa using h.state, h.fence, ?_⟩
  rw [hqueue, hjoining]
  rcases h.stands with hq | ⟨hq, hin⟩ <;> rw [hq]
  · rcases retireWalk_fence (slot := s.slot) (closing := closing) h.fence with hwalk | hwalk <;> rw [hwalk]
    · exact .inl rfl
    · refine .inr ⟨rfl, ?_⟩
      rw [← entryResponse_fence h.fence.left]
      exact mem_joinAll (p := (f, .ok)) (by simp) s.port.joining
  · exact .inr ⟨rfl, (joinAll_sublist _ _).subset hin⟩

/-- At the slot's end the FENCE retires, the slot of its admission included (notes/assumptions/6.md). -/
theorem retired (h : LoneFence f s) : (Machine.retireDone true s).queue = [] ∧
    .retired f.order (fenceResponse f) ∈ (Machine.retireDone true s).port.joining := by
  obtain ⟨hqueue, hjoining, -⟩ := retireDone_walk true s
  rw [hqueue, hjoining]
  rcases h.stands with hq | ⟨hq, hin⟩ <;> rw [hq]
  · obtain ⟨hmem, hphase⟩ := h.fence
    have hretires : retiresWith s.slot true false f = some .ok := by simp [retiresWith, hphase, hmem, Phase.answered]
    have hwalk : retireWalk s.slot true false [f] = ([], [(f, .ok)]) := by simp [retireWalk, hretires]
    rw [hwalk, ← entryResponse_fence hmem]
    exact ⟨rfl, mem_joinAll (p := (f, .ok)) (by simp) s.port.joining⟩
  · exact ⟨rfl, (joinAll_sublist _ _).subset hin⟩

theorem concluded (h : LoneFence f s) : LoneFence f (concluded s) := by
  rw [Machine.concluded, h.onlyFences.judgeAlerted]
  exact h.retireDone false

theorem loseTrust (h : LoneFence f s) : LoneFence f (loseTrust s) := by
  rw [loseTrust_eq]
  have hdoubted : LoneFence f (withdrawVote (emptyTable (doubtMirror (countTrust s)))) := by
    refine h.congr (congrArg Membership.state ?_) ?_ ?_ <;> unfold countTrust <;> split <;> rfl
  rw [hdoubted.onlyFences.loseWriteRetries]
  exact hdoubted.retireDone false

theorem takeDoubt (h : LoneFence f s) : LoneFence f (takeDoubt s) := by
  rcases h.state with hs | hs
  · rw [takeDoubt_member hs]
    exact LoneFence.loseTrust ⟨.inr rfl, h.fence, h.stands⟩
  · simpa [Machine.takeDoubt, hs] using h

theorem takeCommandAlert (h : LoneFence f s) : LoneFence f (takeCommandAlert s) := by
  have htaken : Machine.takeCommandAlert s =
      Machine.takeDoubt (if recordsDoubt s then commandAlertNoted s else s) := by
    rcases h.state with hs | hs <;> simp [Machine.takeCommandAlert, hs, commandAlertNoted]
  rw [htaken]
  refine LoneFence.takeDoubt ?_
  split
  · exact h.congr rfl rfl rfl
  · exact h

theorem commandErrorAlert (h : LoneFence f s) : LoneFence f (commandErrorAlert s) := by
  have hmarked : LoneFence f (s.withWork { s.work with commandAlert := true }) := h.congr rfl rfl rfl
  unfold Machine.commandErrorAlert
  dsimp only
  split
  · rw [hmarked.onlyFences.refuseOwnWrite]
    exact hmarked.takeCommandAlert.concluded
  · exact hmarked

theorem writeCheckAlert (h : LoneFence f s) : LoneFence f (writeCheckAlert s) := by
  have hmarked : LoneFence f (s.withWork { s.work with writeAlert := true }) := h.congr rfl rfl rfl
  unfold Machine.writeCheckAlert
  dsimp only
  split
  · split
    · exact hmarked
    · next a _ =>
      show LoneFence f (Machine.concluded _)
      exact LoneFence.concluded (h.congr rfl rfl rfl)
  · exact hmarked

/-! The command phase, the claim phase and the samples. -/

theorem endDoubt (h : LoneFence f s) (c : LaneCommand) : LoneFence f (endDoubt c s) := by
  rcases h.state with hs | hs
  · have hsame : Machine.endDoubt c s = s := by simp [Machine.endDoubt, hs]
    rwa [hsame]
  · by_cases hsync : (syncDigest c).isSome = true
    · rw [endDoubt_resync hsync hs]
      exact ⟨.inl rfl, h.fence, by simpa using h.stands⟩
    · rwa [endDoubt_ordinary (by simpa using hsync)]

theorem stationCommand (h : LoneFence f s) (i : StationNo) (fault : Bool) (c : LaneCommand) :
    LoneFence f (stationCommand i fault c s) := by
  rw [stationCommand_doubting i fault c (h.state.imp_right .inl)]
  refine LoneFence.endDoubt ?_ c
  have hfaulted : LoneFence f
      (if fault then Machine.takeDoubt (recordFault .mirrorFault (stationDetail i) s) else s) := by
    split
    · exact LoneFence.takeDoubt (h.congr rfl rfl rfl)
    · exact h
  unfold commandDoubted
  split
  · exact hfaulted.takeDoubt
  · exact hfaulted

theorem takeObserved (h : LoneFence f s) (o : Observed) : LoneFence f (takeObserved o s) := by
  have hstate : s.membership.state ≠ .listening ∧ s.membership.state ≠ .initializing := by
    rcases h.state with hs | hs <;> simp [hs]
  obtain ⟨hlisten, hinit⟩ := hstate
  cases o with
  | empty =>
    have hsame : takeEmpty s = s := by simp [takeEmpty, hlisten]
    show LoneFence f (takeEmpty s)
    rwa [hsame]
  | undefined i =>
    show LoneFence f (takeUndefined i s)
    rw [takeUndefined_of_settled (.inl hinit)]
    exact h.congr (by simp [silenced_kept]) rfl rfl
  | command i c =>
    have hnoted : LoneFence f (accountCommand c (applyMirror c (noteCommand i c s))) := h.congr (by simp) (by simp) (by simp)
    exact (hnoted.stationCommand i (mirrorFault c s) c).congr (t := takeCommand i c s) (by simp [takeCommand])
      (by simp [takeCommand]) (by simp [takeCommand])

theorem observe (h : LoneFence f s) (o : Observed) : LoneFence f (observe o s) := by
  by_cases hlane : takesLane s = true
  · have hheard : LoneFence f (heard o s) := h.congr (by simp) (h.onlyFences.heard o) (by simp)
    rw [observe_of_takesLane o hlane]
    exact (hheard.takeObserved o).concluded
  · have hgiven : takesLane (giveMemory o s) = false := by simpa [takesLane] using hlane
    unfold Machine.observe
    dsimp only
    rw [if_neg (by simp [hgiven])]
    exact h.congr (by simp) (by simp) (by simp)

theorem claimPhase (h : LoneFence f s) (peers : ClaimBits) : LoneFence f (claimPhase peers s) := by
  have hexpired : LoneFence f (expireFence s) := h.congr (by simp) h.onlyFences.expireFence (by simp)
  have hqueue : (Machine.claimPhase peers s).queue = (expireFence s).queue := hexpired.onlyFences.selectQueue
  exact h.congr (by simp) (hqueue.trans h.onlyFences.expireFence) (by simp)

theorem reachEnd (h : LoneFence f s) : LoneFence f (reachEnd s) := by
  have hstarted : LoneFence f (startSlot s) := by
    have hqueue : (startSlot s).queue = (expireFence s).queue := by simp [startSlot]
    exact h.congr (by simp [startSlot]) (hqueue.trans h.onlyFences.expireFence) (by simp [startSlot])
  have hclaimed : LoneFence f (defaultClaim (startSlot s)) := by
    unfold defaultClaim
    split
    · exact hstarted
    · exact hstarted.claimPhase 0
  have hread : LoneFence f (defaultReadBack (defaultClaim (startSlot s))) := by
    generalize defaultClaim (startSlot s) = c at hclaimed
    unfold defaultReadBack
    split
    · exact hclaimed
    · next k hwon =>
      rw [readBack_equal hwon]
      have hword : LoneFence f (wordRead (drivenWord c k.candidate) c) := hclaimed.congr rfl rfl rfl
      exact hword.congr (by simp) (hword.onlyFences.takeIssue k.candidate) (by simp)
  unfold Machine.reachEnd
  split
  · exact h
  · exact hread.congr rfl rfl rfl

theorem defaultSamples (h : LoneFence f s) : LoneFence f (defaultSamples s) := by
  have hrise (u : State) (hu : LoneFence f u) (n : StationNo) : LoneFence f (takeRise n u) :=
    hu.congr (by simp [takeRise, setRoster]) (by simp) (by simp)
  have hready (u : State) (hu : LoneFence f u) : LoneFence f (takeReady true u) := by
    have hsampled : LoneFence f (readySampled true u) := hu.congr rfl rfl rfl
    have hstate : (readySampled true u).membership.state ≠ .initializing ∧
        (readySampled true u).membership.state ≠ .listening := by
      rcases hsampled.state with hs | hs <;> simp [hs]
    obtain ⟨hinit, hlisten⟩ := hstate
    rwa [takeReady_true, readyHigh_of_settled hinit fun hl => absurd hl hlisten]
  have hquiet (u : State) (hu : LoneFence f u) : LoneFence f (takeQuiet false u) := hu.congr (by simp) (by simp) (by simp)
  have hrisen := LoneFence.ite (c := (s.lines.presence && !inRoster s.membership.roster s.number) = true)
    (hrise s h s.number) h
  have hrose (u : State) (hu : LoneFence f u) := LoneFence.ite (c := (u.lines.ready && !u.lines.readySample) = true)
    (hready u hu) hu
  have hquieted := hrose _ hrisen
  exact .ite (hquiet _ hquieted) hquieted

theorem closeAlert (h : LoneFence f s) : LoneFence f (closeAlert s) := by
  cases ha : s.work.attributed with
  | none => rwa [closeAlert_none ha]
  | some a =>
    rw [closeAlert_attributed ha, h.onlyFences.judgeAlerted]
    refine h.congr (by simp) ?_ (by simp)
    unfold settleFence
    dsimp only
    rw [h.onlyFences.failFencedEntry]
    (repeat' split) <;> simp [dropFence]

/-- The end of a slot leaves the queue without the FENCE, and its response among those of the slot. -/
theorem settleSlot (h : LoneFence f s) : (settleSlot s).queue = [] ∧
    .retired f.order (fenceResponse f) ∈ (settleSlot s).port.joining := by
  have hrecorded : LoneFence f (defaultRecord (Machine.defaultSamples (Machine.reachEnd s))) := by
    have hsampled := h.reachEnd.defaultSamples
    generalize Machine.defaultSamples (Machine.reachEnd s) = u at hsampled
    have hsame : defaultRecord u = u := by rcases hsampled.state with hs | hs <;> simp [defaultRecord, hs]
    rwa [hsame]
  generalize hu : defaultRecord (Machine.defaultSamples (Machine.reachEnd s)) = u at hrecorded
  have halerted : LoneFence f (defaultWriteAlert (defaultCommandAlert u)) := by
    have hcommand : LoneFence f (defaultCommandAlert u) := by
      unfold defaultCommandAlert
      split
      · exact hrecorded.commandErrorAlert
      · exact hrecorded
    unfold defaultWriteAlert
    split
    · exact hcommand.writeCheckAlert
    · exact hcommand
  have hobserved : LoneFence f (defaultObserve (defaultWriteAlert (defaultCommandAlert u))) := by
    unfold defaultObserve
    split
    · exact halerted
    · exact halerted.observe _
  generalize hv : defaultObserve (defaultWriteAlert (defaultCommandAlert u)) = v at hobserved
  have hcapture : defaultCapture v = v := by
    unfold defaultCapture
    split
    · rfl
    · exact hobserved.onlyFences.captureBurst _ _
  have hwindows : defaultWindows v = v := by simp [defaultWindows, hobserved.onlyFences.windowDue]
  have hsettle : Machine.settleSlot s = settleAccount (recastVote (countIdle (defaultState
      (Machine.retireDone true (countPeriod (Machine.closeAlert v)))))) := by
    unfold Machine.settleSlot
    dsimp only
    rw [hu, hv, hcapture, hwindows]
  have hcounted : LoneFence f (countPeriod (Machine.closeAlert v)) := hobserved.closeAlert.congr (by simp) (by simp) (by simp)
  have hstate := (hcounted.retireDone true).state
  obtain ⟨hqueue, hjoined⟩ := hcounted.retired
  generalize Machine.retireDone true (countPeriod (Machine.closeAlert v)) = w at hsettle hstate hqueue hjoined
  have hstays : defaultState w = w := by
    rcases hstate with hs | hs <;> simp [defaultState, listenWaitDue, detachDue, drainDue, hs]
  rw [hsettle, hstays]
  exact ⟨by simpa using hqueue, by simpa using hjoined⟩

end LoneFence

/-! ### Admission (R90, R91) -/

theorem joinQueue_blocks (e : Entry) (s : State) : PortKept s (joinQueue e (wordTaken s)) ∧
    (joinQueue e (wordTaken s)).controller = { s.controller with vote := false } ∧
    (joinQueue e (wordTaken s)).port = { s.port with inProgress := none, admitted := s.port.admitted + 1 } ∧
    (joinQueue e (wordTaken s)).queue = s.queue ++ [e] := ⟨⟨rfl, rfl⟩, rfl, rfl, rfl⟩

/-- Settles O42: admission by the checks of R90, and the lone FENCE carried through its slot. -/
theorem acceptedRequestJoinsQueue : Obligations.AcceptedRequestJoinsQueue := by
  unfold Obligations.AcceptedRequestJoinsQueue
  refine ⟨⟨fun s kind tag thread bursts urgent address words hready hkind haccepted => ?_,
    fun s p word hready hp hwords haccepted => ?_, fun s tag hready hstate htag hroom => ?_⟩,
    fun s f hpending hstate hq hmem hphase => ?_⟩
  · obtain ⟨u, hexec, hread, hexcl⟩ := exec_memRequest (tag := tag) (thread := thread) (bursts := bursts) (urgent := urgent)
      (address := address) (words := words) hready (hkind.imp_right .inl)
    have hentry : newEntry (wordTaken s) kind tag thread bursts u address [] =
        acceptedEntry s kind tag thread bursts (urgent && decide (kind = .read)) address [] := by
      have hurgent : u = (urgent && decide (kind = .read)) := by
        rcases hkind with hk | hk
        · simp [hread hk, hk]
        · simp [hexcl hk, hk]
      rw [newEntry_eq (.inr rfl), ← hurgent]
      rfl
    rw [hexec, deliver_accepted (s := wordTaken s) thread u [] haccepted, hentry]
    exact ⟨_, rfl, joinQueue_blocks _ s⟩
  · have hexec : exec (.strayWordDiscard word) s = .next (takeData word s) := rfl
    have hentry : newEntry (wordTaken s) p.kind p.tag p.thread p.bursts p.urgent p.address (p.words ++ [word]) =
        acceptedEntry s p.kind p.tag p.thread p.bursts p.urgent p.address (p.words ++ [word]) := by
      rw [newEntry_eq (.inl (by unfold PartialWrite.kind; split <;> rfl))]
      rfl
    rw [hexec, takeData_ready word hready, takeWord_complete word hp hwords,
      deliver_accepted (s := wordTaken s) p.thread p.urgent _ haccepted, hentry]
    exact ⟨_, rfl, joinQueue_blocks _ s⟩
  · have hfence : deliverFence tag (wordTaken s) = joinQueue (fenceEntry (wordTaken s) tag) (wordTaken s) := by
      have hnone : commonRefusal (wordTaken s).membership.state (wordTaken s).queue tag = none :=
        commonRefusal_of_admitting (s := wordTaken s) hstate htag hroom
      unfold deliverFence
      rw [hnone]
    refine ⟨_, (portStep_ready hready).trans (congrArg _ hfence), joinQueue_blocks _ s⟩
  · have hlone : LoneFence f s := ⟨hstate, ⟨hmem, hphase⟩, .inl hq⟩
    have hin : s.membership.state ≠ .off := by rcases hstate with hs | hs <;> simp [hs]
    obtain ⟨hempty, hjoined⟩ := hlone.settleSlot
    obtain ⟨-, -, -, -, -, hqueue, -⟩ := opened_blocks (settleSlot s) (settledMemory s)
    rw [← endSlot_eq hin, hempty] at hqueue
    obtain ⟨before, after, hsplit⟩ := List.append_of_mem hjoined
    refine ⟨endSlot s, s.port.responses ++ before.map (joinedResponse (endSlot s)), after.map (joinedResponse (endSlot s)),
      step_empty hpending, hqueue, ?_⟩
    rw [endSlot_responses hin, hsplit, List.map_append, List.map_cons, List.append_assoc]
    rfl

end Sys2Proof.Machine
end

section
/-! PROOFS. The commands that a station supplies, what each needs to be eligible, and the write fence's test (O10). -/

namespace Sys2Proof.Machine

/-! ### Banks and columns -/

/-- A test of the list of banks is one of every bank. -/
theorem all_banks {m : KnownMirror} {p : BankRecord → Bool} : m.banks.toList.all p = true ↔ ∀ b, p (m.bank b) = true := by
  rw [List.all_eq_true]
  constructor
  · intro h b
    rw [KnownMirror.bank_eq_getElem]
    exact h _ (by simp)
  · intro h x hx
    obtain ⟨i, hi, rfl⟩ := List.mem_iff_getElem.1 hx
    have hi' : i < 16 := by simpa using hi
    have hbank := h (BitVec.ofNat 4 i)
    rw [KnownMirror.bank_eq_getElem] at hbank
    simpa [Nat.mod_eq_of_lt hi'] using hbank

theorem closable_iff {m : KnownMirror} {slot : Nat} :
    m.closable slot = true ↔ ∀ b, (m.bank b).opened ≠ none → (m.bank b).earliestClose ≤ slot := by
  unfold KnownMirror.closable
  rw [all_banks]
  refine forall_congr' fun b => ?_
  cases (m.bank b).opened <;> simp

theorem settled_iff {m : KnownMirror} {slot : Nat} :
    m.settled slot = true ↔ ∀ b, (m.bank b).opened = none ∧ (m.bank b).earliestOpen ≤ slot := by
  unfold KnownMirror.settled
  rw [all_banks]
  refine forall_congr' fun b => ?_
  cases (m.bank b).opened <;> simp

theorem columnsMeet_iff {c1 b1 c2 b2 : Nat} :
    columnsMeet c1 b1 c2 b2 = true ↔ ∃ c, c1 ≤ c ∧ c < c1 + b1 ∧ c2 ≤ c ∧ c < c2 + b2 := by
  simp only [columnsMeet, Bool.and_eq_true, decide_eq_true_eq]
  constructor
  · rintro ⟨⟨⟨h1, h2⟩, h3⟩, h4⟩
    exact ⟨max c1 c2, by omega, by omega, by omega, by omega⟩
  · rintro ⟨c, h1, h2, h3, h4⟩
    omega

/-! ### The check values that a mirror supplies (R75, R76, R112) -/

theorem openCount_le (m : KnownMirror) : m.openCount ≤ 16 := by
  have hle := List.countP_le_length (p := fun b : BankRecord => b.opened.isSome) (l := m.banks.toList)
  simpa [KnownMirror.openCount] using hle

theorem countCheck_openCount (m : KnownMirror) : (countCheck m.openCount).toNat = m.openCount := by
  have hle := openCount_le m
  simp only [countCheck, BitVec.toNat_ofNat]
  omega

section

variable {f : MemFields} {m : KnownMirror}

theorem nextCommand_closed (h : m.openRow f.bank = none) : f.nextCommand m = .openRow 0xFFFF#16 f.bank f.row := by
  unfold MemFields.nextCommand
  rw [h]
  rfl

theorem nextCommand_other {row : RowNo} (h : m.openRow f.bank = some row) (hrow : row ≠ f.row) :
    f.nextCommand m = .close (rowCheck row) f.bank := by
  unfold MemFields.nextCommand
  rw [h]
  exact if_neg hrow

theorem nextCommand_row (h : m.openRow f.bank = some f.row) : f.nextCommand m = f.columnCommand (rowCheck f.row) := by
  unfold MemFields.nextCommand
  rw [h]
  exact if_pos rfl

theorem columnCommand_matches (h : m.openRow f.bank = some f.row) :
    m.mismatch (f.columnCommand (rowCheck f.row)) = false := by
  unfold MemFields.columnCommand
  split <;> simp [KnownMirror.mismatch, h]

/-- The next command finds the bank as the mirror that gave it holds it. -/
theorem nextCommand_matches (f : MemFields) (m : KnownMirror) : m.mismatch (f.nextCommand m) = false := by
  cases h : m.openRow f.bank with
  | none =>
    rw [nextCommand_closed h]
    simp [KnownMirror.mismatch, h]
  | some row =>
    by_cases hrow : row = f.row
    · subst hrow
      rw [nextCommand_row h]
      exact columnCommand_matches h
    · rw [nextCommand_other h hrow]
      simp [KnownMirror.mismatch, h]

end

/-- Every offer with a check value carries the count of open banks. -/
theorem offers_match (s : State) (m : KnownMirror) : ∀ o ∈ offers s m, m.mismatch o.command = false := by
  have hcount := countCheck_openCount m
  simp [offers, KnownMirror.mismatch, hcount]

/-! ### What a column command needs (R79, R82, R83) -/

/-- The fence stands over a column that the command shares (R83). -/
def Fenced (fence : Option WriteFence) (m : KnownMirror) (bank : BankNo) (column : ColumnNo) (bursts : BurstCount) : Prop :=
  ∃ f r, fence = some f ∧ f.bank = bank ∧ m.openRow bank = some r ∧ f.row = rowCheck r ∧
    ∃ c, column.toNat ≤ c ∧ c < column.toNat + bursts.toNat ∧ f.column.toNat ≤ c ∧ c < f.column.toNat + f.bursts.toNat

theorem fenceTest_iff {fence : Option WriteFence} {m : KnownMirror} {bank : BankNo} {column : ColumnNo}
    {bursts : BurstCount} : fenceTest fence (m.openRow bank) bank column bursts = true ↔
      ¬Fenced fence m bank column bursts := by
  unfold fenceTest Fenced
  cases fence with
  | none => simp
  | some f =>
    simp only [Bool.not_eq_true', ← Bool.not_eq_true, Bool.and_eq_true, decide_eq_true_eq, columnsMeet_iff]
    refine not_congr ⟨?_, ?_⟩
    · rintro ⟨⟨hbank, hrow⟩, hcolumn⟩
      obtain ⟨r, hr, heq⟩ := Option.map_eq_some_iff.1 hrow
      exact ⟨f, r, rfl, hbank, hr, heq.symm, hcolumn⟩
    · rintro ⟨g, r, hg, hbank, hr, heq, hcolumn⟩
      obtain rfl := Option.some.inj hg
      exact ⟨⟨hbank, by rw [hr, heq]; rfl⟩, hcolumn⟩

theorem turnaround_eq (t : Timing) (last : Option Direction) :
    turnaround t last .read = (if last = some .write then t.turnWR else 0) ∧
      turnaround t last .write = if last = some .read then t.turnRW else 0 := by
  rcases last with - | - | - <;> exact ⟨rfl, rfl⟩

theorem columnEligible_iff {t : Timing} {slot : Nat} {k : KeptFields} {m : KnownMirror} {fence : Option WriteFence}
    {retry : Bool} {d : Direction} {bank : BankNo} {column : ColumnNo} {bursts : BurstCount} :
    columnEligible t slot k m fence retry d bank column bursts = true ↔
      m.channel = .running ∧ (m.bank bank).opened ≠ none ∧ (m.bank bank).earliestColumn ≤ slot ∧
        k.dataFree + turnaround t k.lastDirection d ≤ slot + t.latency d ∧
        (retry = true ∨ ¬Fenced fence m bank column bursts) := by
  simp only [columnEligible, KnownMirror.running, KeptFields.dataLinesFree, Bool.and_eq_true, Bool.or_eq_true,
    decide_eq_true_eq, fenceTest_iff, Option.isSome_iff_ne_none, and_assoc]

/-- The retry of the fenced WRITE is the fenced entry's own (R114). -/
theorem isFencedRetry_iff {s : State} {e : Entry} {m : MemFields} : isFencedRetry s e m = true ↔
    e.phase = .retryWait ∧ (m.kind = .write ∨ m.kind = .exclWrite) ∧ s.dataUnit.fencedEntry = some e.tag ∧
      ∃ f, s.mirror.fence = some f ∧ f.issuer = s.number ∧ f.bank = m.bank ∧ f.row = rowCheck m.row ∧
        f.column = m.column ∧ f.bursts = m.bursts := by
  unfold isFencedRetry
  cases hfence : s.mirror.fence with
  | none => simp
  | some f => simp [fencesEntry, MemKind.isWrite_iff, and_assoc]

/-- Settles O10: the supplied commands, the eligibility kind by kind, and the fenced retry. -/
theorem ownCommandsPassMirrorCheck : Obligations.OwnCommandsPassMirrorCheck := by
  unfold Obligations.OwnCommandsPassMirrorCheck
  refine ⟨⟨nextCommand_matches, fun f m => ⟨nextCommand_closed, fun row => nextCommand_other, nextCommand_row⟩, offers_match⟩,
    fun t slot k m fence retry x bank row column bursts d item value => ?_, fun s e m => isFencedRetry_iff⟩
  obtain ⟨hread, hwrite⟩ := turnaround_eq t k.lastDirection
  refine ⟨?_, ?_, fun hretry => ?_, ?_, ?_, ?_, ?_, ?_, ?_, ?_, ?_⟩
  · simp [eligible, KeptFields.unblocked, KnownMirror.running, and_assoc]
  · simp [eligible, KeptFields.unblocked, KnownMirror.running, and_assoc, Option.isSome_iff_ne_none]
  · simp only [eligible, Bool.and_eq_true, columnEligible_iff, hread, hretry]
    simp [KeptFields.unblocked, Timing.latency, Fenced, and_assoc]
  · simp only [eligible, Bool.and_eq_true, columnEligible_iff, hwrite]
    simp [KeptFields.unblocked, Timing.latency, Fenced, and_assoc]
  · simp [eligible, KeptFields.unblocked, KnownMirror.running, and_assoc, closable_iff]
  · simp [eligible, KeptFields.unblocked, KnownMirror.running, and_assoc, closable_iff]
  · simp [eligible, KeptFields.unblocked, and_assoc, settled_iff]
  · simp [eligible, KeptFields.unblocked, KnownMirror.running, and_assoc, settled_iff]
  · simp [eligible, KeptFields.unblocked]
  · simp [eligible, KeptFields.unblocked]
  · simp [eligible, KeptFields.unblocked]

end Sys2Proof.Machine
end

section
/-! PROOFS. The maintenance offers, the offered entries, and the claim phase (O8). -/

namespace Sys2Proof.Machine

/-! ### The maintenance candidate (R48, R53, R86, R129, R150) -/

theorem find?_cons_map {α β : Type} {p : α → Bool} {f : α → β} {a : α} {l : List α} :
    ((a :: l).find? p).map f = if p a = true then some (f a) else (l.find? p).map f := by
  rw [List.find?_cons]
  cases p a <;> rfl

section

variable {s : State} {k : KeptFields} {m : KnownMirror}

/-- The offers in their rank: the first one wanted and eligible. -/
theorem controllerCandidate_ranks (s : State) (k : KeptFields) (m : KnownMirror) :
    let may := fun c => eligible s.timing s.slot k m s.mirror.fence false c = true
    let count : CheckValue := BitVec.ofNat 16 m.openCount
    let digest := s.settings.digest
    let member := s.membership.state = .member
    let duty := member ∧ s.controller.duty = some s.number
    controllerCandidate s k m =
      if (member ∧ m.channel = .sleeping ∧ (s.queue ≠ [] ∨ s.lines.quietSample = false)) ∧ may (.wake digest) then
        some ⟨.controller, .wake digest, .maintenance, 61⟩
      else if m.refreshHold = true ∧ may (.refresh count) then some ⟨.controller, .refresh count, .maintenance, 60⟩
      else if (member ∧ 5 ≤ s.controller.debt ∧ m.refreshHold = false) ∧ may (.closeAll count .refresh digest) then
        some ⟨.controller, .closeAll count .refresh digest, .maintenance, 60⟩
      else if (duty ∧ 1 ≤ s.controller.debt ∧ m.refreshHold = false) ∧ may (.closeAll count .refresh digest) then
        some ⟨.controller, .closeAll count .refresh digest, .idle, 10⟩
      else if (duty ∧ s.lines.quietSample = true ∧ m.channel = .running ∧ m.quietHold = false) ∧
          may (.closeAll count .quiet digest) then
        some ⟨.controller, .closeAll count .quiet digest, .idle, 5⟩
      else if (duty ∧ s.lines.quietSample = true ∧ m.quietHold = true) ∧ may (.sleep count) then
        some ⟨.controller, .sleep count, .idle, 5⟩
      else none := by
  intro may count digest member duty
  unfold controllerCandidate offers
  simp only [find?_cons_map]
  refine if_congr ?_ rfl <| if_congr ?_ rfl <| if_congr ?_ rfl <| if_congr ?_ rfl <| if_congr ?_ rfl <| if_congr ?_ rfl rfl
  case refine_3 =>
    rw [Bool.and_eq_true, Bool.and_eq_true, Bool.and_eq_true, decide_eq_true_iff, decide_eq_true_iff, Bool.not_eq_true',
      and_assoc (a := member)]
    exact Iff.rfl
  all_goals simp [may, count, digest, member, duty, countCheck, and_assoc]

theorem recoverable_iff {hold slot : Nat} : k.recoverable hold slot = true ↔
    k.commandBlockUntil ≤ slot ∧ ∀ l, k.lastOpenOrWrite = some l → l + hold ≤ slot := by
  unfold KeptFields.recoverable
  cases k.lastOpenOrWrite <;> simp [KeptFields.unblocked]

theorem recoverCandidate_eq (s : State) (k : KeptFields) : recoverCandidate s k =
    if k.commandBlockUntil ≤ s.slot ∧ (∀ l, k.lastOpenOrWrite = some l → l + s.settings.resyncHold ≤ s.slot) then
      some ⟨.recovery, .closeAll 0 .recover s.settings.digest, .maintenance, 63⟩
    else none := if_congr recoverable_iff rfl rfl

theorem initCandidate_refresh {st : InitStep} (hm : s.mirror.known = some m) (hstep : s.membership.initStep = some st)
    (h : st = .firstRefresh ∨ st = .secondRefresh) : initCandidate s k =
      if eligible s.timing s.slot k m s.mirror.fence false (.refresh 0) = true then
        some ⟨.initialization, initCommand s st, .maintenance, 63⟩ else none := by
  unfold initCandidate
  rw [hstep]
  rcases h with rfl | rfl <;> simp [initDue, hm]

theorem initCandidate_other {st : InitStep} (hstep : s.membership.initStep = some st) (h1 : st ≠ .firstRefresh)
    (h2 : st ≠ .secondRefresh) : initCandidate s k =
      if k.commandBlockUntil ≤ s.slot then some ⟨.initialization, initCommand s st, .maintenance, 63⟩ else none := by
  unfold initCandidate
  rw [hstep]
  cases st
  case firstRefresh => exact absurd rfl h1
  case secondRefresh => exact absurd rfl h2
  all_goals simp [initDue, KeptFields.unblocked]

variable (hk : s.mirror.kept = some k)

include hk

theorem maintenanceOf_member (hst : s.membership.state = .member) : maintenanceOf s = refreshCandidate s k := by
  simp only [maintenanceOf, hk, hst]

theorem maintenanceOf_leaving (hst : s.membership.state = .leaving) (hdoubt : s.membership.leaveDoubt = false) :
    maintenanceOf s = refreshCandidate s k := by
  simp [maintenanceOf, hk, hst, hdoubt]

theorem maintenanceOf_recovery
    (h : s.membership.state = .resync ∨ (s.membership.state = .leaving ∧ s.membership.leaveDoubt = true)) :
    maintenanceOf s = recoverCandidate s k := by
  rcases h with hst | ⟨hst, hdoubt⟩
  · simp only [maintenanceOf, hk, hst]
  · simp [maintenanceOf, hk, hst, hdoubt]

theorem maintenanceOf_initializing (hst : s.membership.state = .initializing) : maintenanceOf s = initCandidate s k := by
  simp only [maintenanceOf, hk, hst]

theorem maintenanceOf_none
    (h : s.membership.state ∈ [StationState.off, .loading, .listening, .draining, .detached, .withdrawn]) :
    maintenanceOf s = none := by
  simp only [List.mem_cons, List.not_mem_nil, or_false] at h
  rcases h with hst | hst | hst | hst | hst | hst <;> simp only [maintenanceOf, hk, hst]

end

theorem refreshCandidate_known {s : State} {k : KeptFields} {m : KnownMirror} (hm : s.mirror.known = some m) :
    refreshCandidate s k = controllerCandidate s k m := by
  simp only [refreshCandidate, hm]

theorem refreshCandidate_doubted {s : State} {k : KeptFields} (hm : s.mirror.known = none) : refreshCandidate s k = none := by
  simp only [refreshCandidate, hm]

/-! ### The offered entries (R101, R103, R110 to R114, R168) -/

theorem blocks_iff (o : Entry) (m : MemFields) : blocks o m = true ↔
    ∀ a, o.mem = some a →
      a.bank = m.bank ∧ a.row = m.row ∧ ¬(a.kind ∈ [MemKind.read, .exclRead] ∧ m.kind ∈ [MemKind.read, .exclRead]) ∧
        ∃ c, a.column.toNat ≤ c ∧ c < a.column.toNat + a.bursts.toNat ∧ m.column.toNat ≤ c ∧
          c < m.column.toNat + m.bursts.toNat := by
  have hkinds (x y : MemKind) :
      (x.isWrite || y.isWrite) = true ↔ ¬(x ∈ [MemKind.read, .exclRead] ∧ y ∈ [MemKind.read, .exclRead]) := by
    cases x <;> cases y <;> decide
  unfold blocks overlaps
  cases hmem : o.mem with
  | none => simp
  | some a =>
    simp only [Bool.and_eq_true, decide_eq_true_eq, hkinds, columnsMeet_iff, Option.some.injEq, forall_eq']
    rw [and_assoc, and_assoc, and_comm (a := ∃ c, _)]

theorem selectAll_at {s : State} {k : KeptFields} {m : KnownMirror} {before older younger : List Entry} {e : Entry} :
    (selectAll s k m before (older ++ e :: younger))[older.length]? = some (selectEntry s k m (before ++ older) e) := by
  induction older generalizing before with
  | nil => simp [selectAll]
  | cons o rest ih => simp [selectAll, ih]

theorem isColumn_columnCommand (f : MemFields) (check : CheckValue) : isColumn (f.columnCommand check) = true := by
  unfold MemFields.columnCommand
  split <;> rfl

/-- The next command is the column command where the mirror holds the entry's row open (R112). -/
theorem isColumn_nextCommand {f : MemFields} {m : KnownMirror} :
    isColumn (f.nextCommand m) = true ↔ m.openRow f.bank = some f.row := by
  cases h : m.openRow f.bank with
  | none => simp [nextCommand_closed h, isColumn]
  | some row =>
    by_cases hrow : row = f.row
    · subst hrow
      simp [nextCommand_row h, isColumn_columnCommand]
    · simp [nextCommand_other h hrow, isColumn, hrow]

section

variable {s : State} {k : KeptFields} {mirror : KnownMirror} {older : List Entry} {e : Entry} {m : MemFields}

theorem failsExclusive_iff : failsExclusive s e m (m.nextCommand mirror) = true ↔
    (m.kind = .exclWrite ∧ e.phase = .waiting ∧ mirror.openRow m.bank = some m.row) ∧ s.table.covers m = false := by
  simp [failsExclusive, isColumn_nextCommand, and_assoc]

theorem owing_iff {p : Phase} : p.owing = true ↔ p = .waiting ∨ p = .retryWait := by
  cases p <;> simp [Phase.owing]

theorem offered_iff : (e.phase.owing && !older.any fun o => blocks o m) = true ↔
    (e.phase = .waiting ∨ e.phase = .retryWait) ∧ ∀ o ∈ older, blocks o m = false := by
  simp [owing_iff]

theorem selectEntry_fence (h : e.mem = none) : selectEntry s k mirror older e = e := by
  simp only [selectEntry, h]

variable (hmem : e.mem = some m)

include hmem

theorem selectEntry_judged (h : (e.phase = .waiting ∨ e.phase = .retryWait) ∧ ∀ o ∈ older, blocks o m = false)
    (htable : failsExclusive s e m (m.nextCommand mirror) = false) :
    selectEntry s k mirror older e =
      { e with
        mem := some { m with
          judged := some
            ⟨m.nextCommand mirror,
              eligible s.timing s.slot k mirror s.mirror.fence (isFencedRetry s e m) (m.nextCommand mirror)⟩ } } := by
  simp only [selectEntry, hmem, offered_iff.2 h, htable]
  rfl

theorem selectEntry_exfail (h : (e.phase = .waiting ∨ e.phase = .retryWait) ∧ ∀ o ∈ older, blocks o m = false)
    (htable : failsExclusive s e m (m.nextCommand mirror) = true) :
    selectEntry s k mirror older e = { e with phase := .done .exfail, mem := some { m with judged := none } } := by
  simp only [selectEntry, hmem, offered_iff.2 h, htable, if_true]

theorem selectEntry_unoffered (h : ¬((e.phase = .waiting ∨ e.phase = .retryWait) ∧ ∀ o ∈ older, blocks o m = false)) :
    selectEntry s k mirror older e = { e with mem := some { m with judged := none } } := by
  simp only [selectEntry, hmem, offered_iff, if_neg h]

end

/-! ### The claim phase (R131, R133, R142) -/

theorem selectQueue_offering {s : State} {k : KeptFields} {m : KnownMirror} (hm : s.mirror.known = some m)
    (hk : s.mirror.kept = some k) (h : offersEntries s = true) : selectQueue s = selectAll s k m [] s.queue := by
  simp only [selectQueue, hm, hk, h, if_true]

theorem queueOf_offering {s : State} {k : KeptFields} {m : KnownMirror} (hm : s.mirror.known = some m)
    (hk : s.mirror.kept = some k) (h : offersEntries s = true) (q : List Entry) : queueOf s q = pick k.lastDirection q := by
  simp [queueOf, hm, hk, h]

theorem offers_none {s : State} (h : s.mirror.known = none ∨ s.mirror.kept = none ∨ offersEntries s = false) (q : List Entry) :
    queueOf s q = none ∧ selectQueue s = s.queue := by
  unfold queueOf selectQueue
  rcases h with h | h | h <;> rw [h] <;> cases s.mirror.kept <;> cases s.mirror.known <;> simp

/-- A claim wins where no other station drives a 1 in a bit time in which its word has a 0 (R133). -/
theorem claimOf_won_iff {s : State} {peers : ClaimBits} {c : Candidate} : (claimOf s peers c).won = true ↔
    ∀ b, b < 11 → peers.getLsbD b = true → (claimOf s peers c).word.getLsbD b = true := by
  refine contest_stays_iff.trans (forall_congr' fun b => imp_congr_right fun _ => ?_)
  show (_ → _) ↔ (_ → (claimWord c.cls c.score s.number).getLsbD b = true)
  cases peers.getLsbD b <;> simp

theorem claimPhase_calm {s : State} (h : NothingExpires s) (peers : ClaimBits) : claimPhase peers s =
    ((s.withQueue (selectQueue s)).withCounters
        { countClaim ((choose (queueOf s (selectQueue s)) (maintenanceOf s)).map (claimOf s peers)) s.counters with
          exclusiveFailures :=
            (countClaim ((choose (queueOf s (selectQueue s)) (maintenanceOf s)).map (claimOf s peers))
              s.counters).exclusiveFailures + BitVec.ofNat 32 (newlyFailed s.queue (selectQueue s)) }).withWork
      { s.work with
        claimTaken := true, queueCandidate := queueOf s (selectQueue s), maintenanceCandidate := maintenanceOf s
        claim := (choose (queueOf s (selectQueue s)) (maintenanceOf s)).map (claimOf s peers) } := by
  unfold claimPhase
  rw [expireFence_calm h]

theorem countClaim_eq (claim : Option Claim) (c : Counters) : countClaim claim c =
    { c with
      claimsWon := c.claimsWon + (match claim with | some k => if k.won then 1 else 0 | none => 0)
      claimsLost := c.claimsLost + (match claim with | some k => if k.won then 0 else 1 | none => 0) } := by
  unfold countClaim
  rcases claim with - | k
  · simp
  · dsimp only
    split <;> simp

/-- Settles O8: the offers by station state, the blocking, and the claim phase as its parts. -/
theorem claimPhaseContests : Obligations.ClaimPhaseContests := by
  unfold Obligations.ClaimPhaseContests
  refine ⟨fun s k m hk hm => ?_, fun s k hk => ⟨fun h => ?_, fun st hst hstep h1 h2 => ?_, fun hm h => ?_, maintenanceOf_none hk⟩,
    blocks_iff, fun s peers htaken hended hcalm => ?_⟩
  · intro may count digest duty
    refine ⟨fun hst => ?_, fun hst hdoubt => ?_, fun st hst hstep h => ?_⟩
    · rw [maintenanceOf_member hk hst, refreshCandidate_known hm, controllerCandidate_ranks]
      simp only [hst, true_and, and_assoc]
      rfl
    · rw [maintenanceOf_leaving hk hst hdoubt, refreshCandidate_known hm, controllerCandidate_ranks]
      simp only [hst, reduceCtorEq, false_and, if_false]
      rfl
    · rw [maintenanceOf_initializing hk hst, initCandidate_refresh hm hstep h]
  · rw [maintenanceOf_recovery hk h, recoverCandidate_eq]
  · rw [maintenanceOf_initializing hk hst, initCandidate_other hstep h1 h2]
  · rcases h with hst | ⟨hst, hdoubt⟩
    · rw [maintenanceOf_member hk hst, refreshCandidate_doubted hm]
    · rw [maintenanceOf_leaving hk hst hdoubt, refreshCandidate_doubted hm]
  · refine ⟨claimPhase peers s, ?_, ?_⟩
    · show execClaimPhase peers s = _
      simp [execClaimPhase, beforeOnce, htaken, hended]
    rw [claimPhase_calm hcalm]
    refine ⟨rfl, rfl, ?_, fun mirror kept hm hk hoffers => ⟨queueOf_offering hm hk hoffers _, fun older younger e hq => ?_⟩,
      fun h => offers_none h _, ?_, ?_, ?_⟩
    · exact (selectQueue_kept s).1
    · have hat : (selectQueue s)[older.length]? = some (selectEntry s kept mirror older e) := by
        rw [selectQueue_offering hm hk hoffers, hq, selectAll_at, List.nil_append]
      refine ⟨fun hmem => hat.trans (by rw [selectEntry_fence hmem]), fun m hmem => ?_⟩
      intro offered judgedByTable
      refine ⟨fun h htable => ?_, fun h hjudged hcovers => ?_, fun h => ?_⟩
      · have hpass : failsExclusive s e m (m.nextCommand mirror) = false := by
          rw [← Bool.not_eq_true, failsExclusive_iff]
          rintro ⟨hjudged, hcovers⟩
          rw [htable hjudged] at hcovers
          cases hcovers
        exact hat.trans (by rw [selectEntry_judged hmem h hpass])
      · exact hat.trans (by rw [selectEntry_exfail hmem h (failsExclusive_iff.2 ⟨hjudged, hcovers⟩)])
      · exact hat.trans (by rw [selectEntry_unoffered hmem h])
    · show Option.map _ (Option.map _ _) = _
      rw [Option.map_map]
      exact Option.map_id_fun' ▸ rfl
    · intro k hk
      obtain ⟨c, -, rfl⟩ := Option.map_eq_some_iff.1 hk
      exact ⟨rfl, claimOf_won_iff⟩
    · rw [countClaim_eq]
      rfl

end Sys2Proof.Machine
end

section
/-! PROOFS. The read-back of a won command phase that finds the word driven, and what comes before the first event of a
slot's end (O11). -/

namespace Sys2Proof.Machine

/-! ### The issue of a column command (R95, R138, R164, R169) -/

/-- The fields of an entry at the issue of its column command (R95). -/
def MemFields.issuedAt (slot : Nat) (m : MemFields) : MemFields :=
  { m with issueSlot := some slot, retrySlot := none, captured := [], captureFailed := false }

/-- An entry at the issue of its column command (R95). -/
def Entry.issued (slot : Nat) (kind : MemKind) (e : Entry) : Entry :=
  { e with phase := issuedPhase kind, mem := e.mem.map (MemFields.issuedAt slot) }

theorem issueColumn_eq (e : Entry) (m : MemFields) (s : State) :
    issueColumn e m s = changeEntry e.tag (Entry.issued s.slot m.kind) (s.withTable (issueTable s e m)) := rfl

theorem takeIssue_column {s : State} {c : Candidate} {position : Nat} {e : Entry} {m : MemFields}
    (hsource : c.source = .queue position e.tag) (hcolumn : isColumn c.command = true) (hfind : findEntry e.tag s = some e)
    (hmem : e.mem = some m) : takeIssue c s = issueColumn e m s := by
  simp only [takeIssue, hsource, hcolumn, hfind, hmem, if_true]

theorem issuedPhase_eq (kind : MemKind) :
    issuedPhase kind = if kind = .write ∨ kind = .exclWrite then .writeIssued else .readIssued := by
  cases kind <;> rfl

theorem pendingWrite_iff {t : ReservationTable} {m : MemFields} {slot : Nat} : t.pendingWrite m slot = true ↔
    ∃ w, t.lastWrite = some w ∧ w.bank = m.bank ∧ w.row = rowCheck m.row ∧ w.firstColumn ≤ m.column.toNat ∧
      m.column.toNat ≤ w.lastColumn ∧ slot < w.lastDataSlot := by
  unfold ReservationTable.pendingWrite
  cases t.lastWrite <;> simp [and_assoc]

section

variable {t : ReservationTable} {m : MemFields} {slot : Nat}

theorem setFor_lastWrite : (t.setFor m slot).lastWrite = t.lastWrite := by
  unfold ReservationTable.setFor
  dsimp only
  split <;> rfl

theorem setFor_pending (h : t.pendingWrite m slot = true) :
    (t.setFor m slot).reservations = t.reservations.filter fun r => decide (r.thread ≠ m.thread) := by
  simp [ReservationTable.setFor, h, ReservationTable.drop]

theorem setFor_free (h : t.pendingWrite m slot = false) : (t.setFor m slot).reservations =
    makeRoom (t.reservations.filter fun r => decide (r.thread ≠ m.thread)) ++
      [⟨m.thread, m.bank, m.row, m.column, slot⟩] := by
  simp [ReservationTable.setFor, h, ReservationTable.drop]

end

section

variable {s : State} {e : Entry} {m : MemFields}

theorem issueTable_plain (h : m.kind = .read ∨ m.kind = .write) : issueTable s e m = s.table := by
  rcases h with h | h <;> simp only [issueTable, h]

theorem issueTable_exclRead (h : m.kind = .exclRead) : issueTable s e m = s.table.setFor m s.slot := by
  simp only [issueTable, h]

theorem issueTable_consumes (h : m.kind = .exclWrite) (hphase : e.phase = .waiting) :
    issueTable s e m = s.table.drop m.thread := by
  simp only [issueTable, h, hphase, if_true]

theorem issueTable_retry (h : m.kind = .exclWrite) (hphase : e.phase ≠ .waiting) : issueTable s e m = s.table := by
  simp only [issueTable, h, if_neg hphase]

theorem issueTable_lastWrite : (issueTable s e m).lastWrite = s.table.lastWrite := by
  unfold issueTable
  split
  · exact setFor_lastWrite
  · split <;> rfl
  all_goals rfl

end

/-! ### The issue of a command that is no column command (R95, R193) -/

theorem takeIssue_other {s : State} {c : Candidate} (hcolumn : isColumn c.command = false) :
    takeIssue c s = s.withCounters (takeIssue c s).counters ∧
      ((∃ check, c.command = .refresh check) → (∀ position tag, c.source ≠ .queue position tag) →
        (takeIssue c s).counters = { s.counters with refreshesIssued := s.counters.refreshesIssued + 1 }) ∧
      ((∀ check, c.command ≠ .refresh check) → (takeIssue c s).counters = s.counters) := by
  obtain ⟨source, command, cls, score⟩ := c
  have hsame : s = s.withCounters s.counters := rfl
  by_cases hqueue : ∃ position tag, source = .queue position tag
  · obtain ⟨position, tag, rfl⟩ := hqueue
    have hissue : takeIssue ⟨.queue position tag, command, cls, score⟩ s = s := by simp [takeIssue, hcolumn]
    rw [hissue]
    exact ⟨hsame, fun _ h => absurd rfl (h position tag), fun _ => rfl⟩
  · have hplain (h : ∀ check, command ≠ .refresh check) : takeIssue ⟨source, command, cls, score⟩ s = s := by
      cases source
      case queue position tag => exact absurd ⟨position, tag, rfl⟩ hqueue
      all_goals
        cases command
        case refresh check => exact absurd rfl (h check)
        all_goals rfl
    by_cases hrefresh : ∃ check, command = .refresh check
    · obtain ⟨check, rfl⟩ := hrefresh
      have hissue : takeIssue ⟨source, .refresh check, cls, score⟩ s =
          s.withCounters { s.counters with refreshesIssued := s.counters.refreshesIssued + 1 } := by
        cases source
        case queue position tag => exact absurd ⟨position, tag, rfl⟩ hqueue
        all_goals rfl
      rw [hissue]
      exact ⟨rfl, fun _ _ => rfl, fun h => absurd rfl (h check)⟩
    · rw [hplain fun check h => hrefresh ⟨check, h⟩]
      exact ⟨hsame, fun h _ => absurd h hrefresh, fun _ => rfl⟩

/-! ### The slot's work up to its end -/

/-- What comes before the first event of a slot's end settles the claim phase and the read-back, and no other part of the slot's
work. -/
def BeforeEnd (w v : SlotWork) : Prop :=
  v = { w with
    claimTaken := v.claimTaken, queueCandidate := v.queueCandidate, maintenanceCandidate := v.maintenanceCandidate
    claim := v.claim, readBack := v.readBack, ended := v.ended, presumed := v.presumed, claimPresumed := v.claimPresumed }

namespace BeforeEnd

variable {u v w : SlotWork}

theorem refl (w : SlotWork) : BeforeEnd w w := rfl

theorem trans (huv : BeforeEnd u v) (hvw : BeforeEnd v w) : BeforeEnd u w := by
  unfold BeforeEnd at *
  rw [hvw, huv]

theorem fields (h : BeforeEnd w v) : v.observed = w.observed ∧ v.commandAlert = w.commandAlert ∧
    v.writeAlert = w.writeAlert ∧ v.captured = w.captured ∧ v.peerBurst = w.peerBurst ∧ v.positions = w.positions := by
  unfold BeforeEnd at h
  rw [h]
  exact ⟨rfl, rfl, rfl, rfl, rfl, rfl⟩

end BeforeEnd

theorem claimPhase_work (peers : ClaimBits) (s : State) : (claimPhase peers s).work =
    { s.work with
      claimTaken := true, queueCandidate := (claimPhase peers s).work.queueCandidate
      maintenanceCandidate := (claimPhase peers s).work.maintenanceCandidate, claim := (claimPhase peers s).work.claim } := by
  simp [claimPhase]

theorem defaultClaim_before (s : State) : BeforeEnd s.work (defaultClaim s).work := by
  unfold defaultClaim BeforeEnd
  split
  · rfl
  · rw [claimPhase_work]

theorem defaultReadBack_before (s : State) : BeforeEnd s.work (defaultReadBack s).work := by
  unfold defaultReadBack
  split
  · exact .refl _
  · next k hk =>
    obtain ⟨-, -, hwork, -⟩ := takeIssue_frame k.candidate (wordRead (drivenWord s k.candidate) s)
    rw [readBack_equal hk, hwork]
    rfl

theorem reachEnd_before (s : State) : BeforeEnd s.work (reachEnd s).work := by
  obtain ⟨-, -, hstart, -⟩ := startSlot_frame s
  have hbefore := (defaultClaim_before (startSlot s)).trans (defaultReadBack_before _)
  rw [hstart] at hbefore
  unfold reachEnd
  split
  · exact .refl _
  · exact hbefore.trans rfl

theorem reachEnd_reachEnd (s : State) : reachEnd (reachEnd s) = reachEnd s := reachEnd_ended (reachEnd_work_ended s)

theorem whenDue_reachEnd (due : State → Bool) (act : State → State) {s : State} (h : due (reachEnd s) = true) :
    whenDue due act s = whenDue due act (reachEnd s) := by
  unfold whenDue
  rw [reachEnd_reachEnd, if_pos h, if_pos h]

theorem takesWord_reachEnd (s : State) : takesWord (reachEnd s) = takesWord s := by
  obtain ⟨-, -, -, -, -, -, hport, -⟩ := reachEnd_frame s
  obtain ⟨-, -, -, -, -, hpositions⟩ := (reachEnd_before s).fields
  unfold takesWord
  rw [hport, hpositions]

theorem portStep_reachEnd (f : State → State) {s : State} (h : PortOpen (reachEnd s)) :
    portStep f s = portStep f (reachEnd s) := by
  have htakes : takesWord (reachEnd s) = true := takesWord_iff.2 h
  unfold portStep
  rw [reachEnd_reachEnd, if_pos htakes, if_pos (takesWord_reachEnd s ▸ htakes)]

theorem takeData_reachEnd (word : PortWord) {s : State} (h : PortOpen (reachEnd s)) :
    takeData word s = takeData word (reachEnd s) := by
  have htakes : takesWord (reachEnd s) = true := takesWord_iff.2 h
  unfold takeData
  rw [reachEnd_reachEnd, if_pos htakes, if_pos (takesWord_reachEnd s ▸ htakes)]

theorem execReadBurstCapture_reachEnd (lines : DataLines) (check : Byte) {s : State} (hcaptured : (reachEnd s).work.captured = false)
    (hpeer : (reachEnd s).work.peerBurst = none) (h : (captureOf (reachEnd s)).isSome = true) :
    execReadBurstCapture lines check s = execReadBurstCapture lines check (reachEnd s) := by
  obtain ⟨-, -, -, hcaptured', hpeer', -⟩ := (reachEnd_before s).fields
  have htake (u : State) (hu : u.work.captured = false) (hu' : u.work.peerBurst = none) :
      execReadBurstCapture lines check u = .next (takeLines ⟨lines.data, lines.mask, check⟩ u) := by
    simp [execReadBurstCapture, hu, hu', beforeOnce]
  rw [htake _ hcaptured hpeer, htake s (hcaptured' ▸ hcaptured) (hpeer' ▸ hpeer)]
  unfold takeLines
  rw [reachEnd_reachEnd, if_pos h, if_pos h]

/-- A step of the slot's end finds what comes before it over, whoever has taken it. -/
theorem exec_reachEnd {c : Instr} {s : State} (h : ActsAtEnd c (reachEnd s)) : exec c s = exec c (reachEnd s) := by
  obtain ⟨-, hcommand, hwrite, -⟩ := (reachEnd_before s).fields
  cases c
  case commandErrorAlert =>
    have h' : (reachEnd s).work.commandAlert = false := h
    show execCommandErrorAlert s = execCommandErrorAlert (reachEnd s)
    unfold execCommandErrorAlert
    rw [h', ← hcommand, h', beforeOnce, beforeOnce, if_neg Bool.false_ne_true, if_neg Bool.false_ne_true, reachEnd_reachEnd]
  case writeCheckAlert =>
    have h' : (reachEnd s).work.writeAlert = false := h
    show execWriteCheckAlert s = execWriteCheckAlert (reachEnd s)
    unfold execWriteCheckAlert
    rw [h', ← hwrite, h', beforeOnce, beforeOnce, if_neg Bool.false_ne_true, if_neg Bool.false_ne_true, reachEnd_reachEnd]
  case readBurstCapture lines check =>
    obtain ⟨hcaptured, hpeer, hof⟩ := h
    exact execReadBurstCapture_reachEnd lines check hcaptured hpeer hof
  case presenceRise n => exact whenDue_reachEnd (riseDue n) (takeRise n) h
  case presenceFall n => exact whenDue_reachEnd (fallDue n) (takeFall n) h
  case readyLineChange high => exact whenDue_reachEnd samplesLines (takeReady high) (decide_eq_true h)
  case quietLineChange high => exact whenDue_reachEnd samplesLines (takeQuiet high) (decide_eq_true h)
  case listenWaitExpiry => exact whenDue_reachEnd listenWaitDue enterInitializing h
  case periodExpiry => exact whenDue_reachEnd periodDue expirePeriod h
  case idleWaitExpiry => exact whenDue_reachEnd idleDue (fun s => recastVote (countIdle s)) h
  case alertWindowExpiry => exact whenDue_reachEnd windowDue (fun s => retireDone false (expireWindows s)) h
  case drainComplete => exact whenDue_reachEnd drainDue endDrain h
  case detach => exact whenDue_reachEnd detachDue enterDetached h
  case strayWordDiscard word => exact congrArg Host.Outcome.next (takeData_reachEnd word h)
  case readRequest | exclReadRequest | fence | quietPermit | leave | join | restart | undefinedRequestKind =>
    exact portStep_reachEnd _ h
  case writeRequest tag thread bursts urgent address words =>
    exact portStep_reachEnd (fun s => takeWords words (deliverWrite ⟨false, tag, thread, bursts, urgent, address, []⟩ s)) h
  case exclWriteRequest tag thread bursts address words =>
    exact portStep_reachEnd (fun s => takeWords words (deliverWrite ⟨true, tag, thread, bursts, false, address, []⟩ s)) h
  case report tag =>
    exact portStep_reachEnd (fun s => s.withPort { s.port with joining := s.port.joining ++ [.report tag] }) h
  case clear tag => exact portStep_reachEnd (fun s => answerOk 10 tag (s.withFaults s.faults.cleared)) h
  all_goals exact h.elim

/-! ### The observation of a command phase -/

theorem enterDraining_work (target : DrainTarget) (s : State) : (enterDraining target s).work =
    { s.work with idleSettled := (enterDraining target s).work.idleSettled } := by
  have hdrained : (drained target s).work = s.work := by simp [drained, withdrawVote, dropFence, doubtMirror, emptyTable]
  rw [enterDraining_eq, retireDone_work, hdrained]

theorem withdrawByDrain_work (s : State) : (withdrawByDrain s).work =
    { s.work with idleSettled := (withdrawByDrain s).work.idleSettled } := by
  unfold withdrawByDrain
  split
  · rfl
  · rfl
  · rw [enterDraining_work]

theorem claimFault_work (w : LaneBits) (s : State) : (claimFault w s).work =
    { s.work with faulted := true, idleSettled := (claimFault w s).work.idleSettled } := by
  unfold claimFault
  rw [withdrawByDrain_work]
  simp

/-- A read-back keeps the word that it samples, and the mark of an observation. -/
theorem readBack_word (w : LaneBits) (s : State) : (readBack w s).work.observed = s.work.observed ∧
    ((readBack w s).work.readBack = some w ∨ (readBack w s).work.readBack = s.work.readBack) := by
  cases hwon : wonClaim s with
  | none =>
    rw [readBack_lost w hwon]
    exact ⟨rfl, .inr rfl⟩
  | some k =>
    by_cases hw : w = drivenWord s k.candidate
    · subst hw
      obtain ⟨-, -, hwork, -⟩ := takeIssue_frame k.candidate (wordRead (drivenWord s k.candidate) s)
      rw [readBack_equal hwon, hwork]
      exact ⟨rfl, .inl rfl⟩
    · rw [readBack_differs hwon hw, claimFault_work]
      exact ⟨rfl, .inl rfl⟩

theorem claimBefore_work (w : LaneBits) (s : State) :
    (claimBefore w s).work.observed = s.work.observed ∧ (claimBefore w s).work.readBack = s.work.readBack := by
  have hclaim (peers : ClaimBits) : (claimPhase peers s).work.observed = s.work.observed ∧
      (claimPhase peers s).work.readBack = s.work.readBack := by
    rw [claimPhase_work]
    exact ⟨rfl, rfl⟩
  unfold claimBefore
  split
  · exact ⟨rfl, rfl⟩
  · split
    · exact hclaim 0
    · split
      · exact hclaim 0
      · exact hclaim _

/-- The command phase of a slot in which nothing has been read back is ready for the word that the lines carried. -/
theorem reachObservation_ready {w : LaneBits} {s : State} (hended : s.work.ended = false) (hobserved : s.work.observed = none)
    (hread : s.work.readBack = none) : ReadyToObserve (decodeCommand w) (reachObservation w s) := by
  obtain ⟨-, -, hstart, -⟩ := startSlot_frame s
  obtain ⟨hclaim, hclaim'⟩ := claimBefore_work w (startSlot s)
  obtain ⟨hback, hback'⟩ := readBack_word w (claimBefore w (startSlot s))
  rw [hstart] at hclaim hclaim'
  have hwork : (reachObservation w s).work.observed = (readBack w (claimBefore w (startSlot s))).work.observed ∧
      (reachObservation w s).work.readBack = (readBack w (claimBefore w (startSlot s))).work.readBack := by
    unfold reachObservation
    rw [hended]
    exact ⟨rfl, rfl⟩
  refine ⟨by rw [hwork.left, hback, hclaim, hobserved], by simp, fun v hv => ?_⟩
  rw [hwork.right] at hv
  rcases hback' with hword | hkept
  · rw [hword] at hv
    rw [Option.some.inj hv]
  · rw [hkept, hclaim', hread] at hv
    cases hv

theorem observeWord_reached {w : LaneBits} {s : State} (hended : s.work.ended = false) (hobserved : s.work.observed = none)
    (hread : s.work.readBack = none) :
    observeWord w (decodeCommand w) s = observeWord w (decodeCommand w) (reachObservation w s) := by
  have helse : observedElsewhere (decodeCommand w) s = false := by simp [observedElsewhere, hobserved, hread]
  rw [observeWord_ready w (reachObservation_ready hended hobserved hread), observeWord, meetWord, helse]
  rfl

theorem decodeCommand_undefinedWord {kind : BitVec 4} (i : StationNo) (h : 10 ≤ kind.toNat) :
    decodeCommand (undefinedWord kind i) = .undefined i := by
  have hkind : (undefinedWord kind i).extractLsb' 44 4 = kind := by
    unfold undefinedWord
    simp (disch := decide) only [BitVec.extractLsb'_cast, BitVec.extractLsb'_append_eq_of_le, BitVec.extractLsb'_eq_self,
      Nat.reduceSub, -Nat.reduceAdd]
  have hissuer : wordIssuer (undefinedWord kind i) = i := by
    unfold undefinedWord wordIssuer
    simp (disch := decide) only [BitVec.extractLsb'_cast, BitVec.extractLsb'_append_eq_of_le, BitVec.extractLsb'_append_eq_of_add_le,
      BitVec.extractLsb'_eq_self, Nat.reduceSub, -Nat.reduceAdd]
  have hlt : kind.toNat < 16 := kind.isLt
  unfold decodeCommand
  dsimp only
  rw [hkind, hissuer]
  generalize kind.toNat = n at h hlt
  interval_cases n <;> rfl

/-! ### The obligation -/

theorem exec_commandReadBack {s : State} (w : LaneBits) (hended : s.work.ended = false) (htaken : s.work.claimTaken = true) :
    exec (.commandReadBack w) s = .next (readBack w s) := by
  show execCommandReadBack w s = _
  simp [execCommandReadBack, hended, defaultClaim, htaken]

theorem exec_commandReadBack_ended {s : State} (w : LaneBits) (hended : s.work.ended = true) :
    exec (.commandReadBack w) s = .next (lateReadBack w s) := by
  show execCommandReadBack w s = _
  simp [execCommandReadBack, hended]

theorem lateReadBack_closed {s : State} (w : LaneBits) (h : s.work.presumed = false) : lateReadBack w s = s := by
  simp [lateReadBack, h]

/-- The word that was taken to be sampled, brought late, closes the read-back and changes nothing else. -/
theorem lateReadBack_same {s : State} {w : LaneBits} (h : s.work.readBack = some w) :
    lateReadBack w s = s.withWork { s.work with presumed := s.work.presumed && s.work.observed.isSome } := by
  have hword (p : Bool) : { s.work with presumed := p, readBack := some w } = { s.work with presumed := p } := by
    rw [← h]
  unfold lateReadBack
  rw [hword]
  by_cases hopen : (s.work.presumed && s.work.observed.isNone) = true
  · rw [if_pos hopen]
    obtain ⟨-, hnone⟩ := Bool.and_eq_true_iff.1 hopen
    rw [Option.isNone_iff_eq_none] at hnone
    rw [hnone, Option.isSome_none, Bool.and_false]
    split
    · rfl
    · rw [if_pos h]
  · rw [if_neg hopen]
    have hsame : (s.work.presumed && s.work.observed.isSome) = s.work.presumed := by
      cases hp : s.work.presumed
      · rfl
      · rw [hp, Bool.true_and] at hopen
        simpa [Option.isSome_iff_ne_none] using hopen
    rw [hsame]
    rfl

theorem defaultClaim_taken (s : State) (h : s.work.claimTaken = false) :
    defaultClaim s = claimPhase 0 s ∧ defaultClaim (claimPhase 0 s) = claimPhase 0 s := by
  have htaken : (claimPhase 0 s).work.claimTaken = true := by rw [claimPhase_work]
  unfold defaultClaim
  rw [h, htaken]
  exact ⟨rfl, rfl⟩

/-- A read-back that brings the claim phase with it finds the one with no other claimant. -/
theorem exec_commandReadBack_unclaimed {s : State} (w : LaneBits) (hended : s.work.ended = false)
    (htaken : s.work.claimTaken = false) : exec (.commandReadBack w) s = exec (.commandReadBack w) (claimPhase 0 s) := by
  obtain ⟨hclaim, hagain⟩ := defaultClaim_taken s htaken
  have hended' : (claimPhase 0 s).work.ended = false := by rw [claimPhase_work, hended]
  show execCommandReadBack w s = execCommandReadBack w (claimPhase 0 s)
  unfold execCommandReadBack
  rw [hended, hended', hclaim, hagain]
  rfl

/-- Settles O11: the issue by the kind of command, the read-backs that change nothing, and what a step of the slot's end and an
observation find over. -/
theorem equalReadBackIssues : Obligations.EqualReadBackIssues := by
  unfold Obligations.EqualReadBackIssues
  refine ⟨fun s k e m position hended htaken hwon hsource hcolumn hfind hmem => ?_, fun t m slot => pendingWrite_iff,
    fun s k hended htaken hwon hcolumn => ?_, fun s w h => ?_, fun s w hended hword => ?_,
    fun s w => exec_commandReadBack_unclaimed w, fun c s _ h => ⟨reachEnd_work_ended s, exec_reachEnd h⟩,
    fun s hended hobserved hread => ?_⟩
  · have hissue : takeIssue k.candidate (wordRead (drivenWord s k.candidate) s) =
        issueColumn e m (wordRead (drivenWord s k.candidate) s) :=
      takeIssue_column (s := wordRead (drivenWord s k.candidate) s) hsource hcolumn hfind hmem
    refine ⟨issueColumn e m (wordRead (drivenWord s k.candidate) s), ?_, rfl, List.length_map _, fun j x hx hne => ?_,
      fun j x hx htag => ?_, issueTable_lastWrite, issueTable_plain, fun hkind => ?_, fun hkind hphase => ?_, issueTable_retry⟩
    · rw [exec_commandReadBack _ hended htaken, ← hissue]
      exact congrArg Host.Outcome.next (readBack_equal hwon)
    · obtain ⟨-, hother⟩ := getElem?_changeEntry (s := (wordRead (drivenWord s k.candidate) s).withTable
        (issueTable s e m)) (tag := e.tag) (f := Entry.issued s.slot m.kind) hx
      rw [issueColumn_eq]
      exact hother hne
    · obtain ⟨hat, -⟩ := getElem?_changeEntry (s := (wordRead (drivenWord s k.candidate) s).withTable
        (issueTable s e m)) (tag := e.tag) (f := Entry.issued s.slot m.kind) hx
      rw [issueColumn_eq]
      exact ⟨x.issued s.slot m.kind, hat htag, htag, rfl, rfl, issuedPhase_eq m.kind, rfl⟩
    · have htable : (issueColumn e m (wordRead (drivenWord s k.candidate) s)).table = s.table.setFor m s.slot :=
        issueTable_exclRead (s := s) hkind
      intro others set
      rw [htable]
      refine ⟨setFor_pending, fun hfree hroom => ?_, fun hfree hfull => ?_⟩
      · rw [setFor_free hfree, makeRoom_room hroom]
      · obtain ⟨before, r, after, hothers, hmin, hevict⟩ := makeRoom_full hfull
        exact ⟨before, r, after, hothers, hmin, by rw [setFor_free hfree, hevict]⟩
    · have htable : (issueColumn e m (wordRead (drivenWord s k.candidate) s)).table = s.table.drop m.thread :=
        issueTable_consumes (s := s) hkind hphase
      rw [htable]
      rfl
  · obtain ⟨heq, hrefresh, hother⟩ := takeIssue_other (s := wordRead (drivenWord s k.candidate) s) hcolumn
    refine ⟨takeIssue k.candidate (wordRead (drivenWord s k.candidate) s), ?_, heq, hrefresh, hother⟩
    rw [exec_commandReadBack _ hended htaken]
    exact congrArg Host.Outcome.next (readBack_equal hwon)
  · rcases h with ⟨hended, hpresumed⟩ | ⟨hended, htaken, hlost⟩
    · rw [exec_commandReadBack_ended w hended, lateReadBack_closed w hpresumed]
    · rw [exec_commandReadBack w hended htaken, readBack_lost w hlost]
  · rw [exec_commandReadBack_ended w hended, lateReadBack_same hword]
  · refine ⟨fun i c => ?_, fun kind i hkind => ?_, ?_⟩
    · have hdecode := decodeCommand_encodeCommand i c
      have hready := reachObservation_ready (w := encodeCommand i c) hended hobserved hread
      have hstep := observeWord_reached (w := encodeCommand i c) hended hobserved hread
      rw [hdecode] at hready hstep
      refine ⟨hready, ?_⟩
      have hexec (u : State) : exec (laneStep i c) u = .next (observeWord (encodeCommand i c) (.command i c) u) := by
        cases c <;> rfl
      rw [hexec, hexec, hstep]
    · have hstep := observeWord_reached (w := undefinedWord kind i) hended hobserved hread
      rw [decodeCommand_undefinedWord i hkind] at hstep
      exact congrArg Host.Outcome.next hstep
    · exact congrArg Host.Outcome.next (observeWord_reached (w := 0) hended hobserved hread)

end Sys2Proof.Machine
end

section
/-! PROOFS. The read-back that differs: the withdrawal by a drain, and the issue taken back where it comes late (O12). -/

namespace Sys2Proof.Machine

/-! ### The fault and the withdrawal (R56, R59, R61, R139) -/

/-- The station with the CLAIM_FAULT of a sampled word recorded. -/
def claimFaultNoted (w : LaneBits) (s : State) : State :=
  (recordFault .claimFault (optionalDetail (observedIssuer (decodeCommand w))) s).withWork { s.work with faulted := true }

section

variable {w : LaneBits} {s : State}

theorem claimFault_draining (h : s.membership.state = .draining) : claimFault w s =
    (claimFaultNoted w s).withMembership { s.membership with drainTarget := some .withdrawn } := by
  have hst : (claimFaultNoted w s).membership.state = .draining := h
  show withdrawByDrain (claimFaultNoted w s) = _
  unfold withdrawByDrain
  rw [hst]
  rfl

theorem claimFault_withdrawn (h : s.membership.state = .withdrawn) : claimFault w s = claimFaultNoted w s := by
  have hst : (claimFaultNoted w s).membership.state = .withdrawn := h
  show withdrawByDrain (claimFaultNoted w s) = _
  simp only [withdrawByDrain, hst]

theorem claimFault_drains (h1 : s.membership.state ≠ .draining) (h2 : s.membership.state ≠ .withdrawn) :
    claimFault w s = enterDraining .withdrawn (claimFaultNoted w s) := by
  have hst : (claimFaultNoted w s).membership.state = s.membership.state := rfl
  show withdrawByDrain (claimFaultNoted w s) = _
  unfold withdrawByDrain
  rw [hst]
  cases hs : s.membership.state <;> simp_all

theorem claimFaultNoted_faults (w : LaneBits) (s : State) : FaultStands .claimFault (claimFaultNoted w s).faults ∧
    (claimFaultNoted w s).faults.first =
      some (s.faults.first.getD (.claimFault, optionalDetail (observedIssuer (decodeCommand w)))) := by
  obtain ⟨-, hfirst, -⟩ := faultNoted_recordFault .claimFault (optionalDetail (observedIssuer (decodeCommand w))) s
  exact ⟨faultStands_add _ _ _, hfirst⟩

theorem claimFault_faults (w : LaneBits) (s : State) : FaultsGrow (claimFaultNoted w s).faults (claimFault w s).faults := by
  show FaultsGrow (claimFaultNoted w s).faults (withdrawByDrain (claimFaultNoted w s)).faults
  unfold withdrawByDrain
  split
  · exact .refl
  · exact .refl
  · exact enterDraining_faults .withdrawn _

theorem claimFault_counted (w : LaneBits) (s : State) : DrainCounted s (claimFault w s) := by
  show DrainCounted (claimFaultNoted w s) (withdrawByDrain (claimFaultNoted w s))
  unfold withdrawByDrain
  split
  · rfl
  · rfl
  · exact enterDraining_counted .withdrawn _

/-- The fault answers entries and brings none. -/
theorem mem_claimFault {x : Entry} (h : x ∈ (claimFault w s).queue) : x ∈ s.queue := by
  have hmem : x ∈ (withdrawByDrain (claimFaultNoted w s)).queue := h
  unfold withdrawByDrain at hmem
  split at hmem
  · exact hmem
  · exact hmem
  · obtain ⟨hold, -⟩ := mem_enterDraining hmem
    exact hold

theorem claimFault_mirror (w : LaneBits) (s : State) : (claimFault w s).mirror.kept = s.mirror.kept := by
  show (withdrawByDrain (claimFaultNoted w s)).mirror.kept = s.mirror.kept
  unfold withdrawByDrain
  split
  · rfl
  · rfl
  · rw [enterDraining_mirror]
    rfl

theorem claimFault_membership (h : s.membership.state ≠ .withdrawn) :
    (claimFault w s).membership.state = .draining ∧ (claimFault w s).membership.drainTarget = some .withdrawn ∧
      (claimFault w s).membership.roster = s.membership.roster := by
  by_cases hs : s.membership.state = .draining
  · rw [claimFault_draining hs]
    exact ⟨hs, rfl, rfl⟩
  · rw [claimFault_drains hs h, enterDraining_membership]
    exact ⟨rfl, rfl, rfl⟩

/-- A station that was not draining leaves its mirror, its fence, its table and its vote (R56). -/
theorem claimFault_left (h1 : s.membership.state ≠ .draining) (h2 : s.membership.state ≠ .withdrawn) :
    (claimFault w s).mirror.known = none ∧ (claimFault w s).mirror.fence = none ∧
      (claimFault w s).table.reservations = [] ∧ (claimFault w s).controller.vote = false := by
  rw [claimFault_drains h1 h2, enterDraining_mirror, enterDraining_table, enterDraining_vote]
  exact ⟨rfl, rfl, rfl, rfl⟩

theorem outerKept_claimFault (w : LaneBits) (s : State) : OuterKept s (claimFault w s) ∧ (claimFault w s).memory = s.memory := by
  obtain ⟨hpending, hslot, hlines, hloader, hmemory, -⟩ := claimFault_frame w s
  exact ⟨⟨hpending, hslot, hlines, hloader⟩, hmemory⟩

end

theorem issuerDetail_eq (o : Observed) : optionalDetail (observedIssuer o) =
    match o with
      | .empty => 0xFF#8
      | .undefined i => i.setWidth 8
      | .command i _ => i.setWidth 8 := by
  cases o <;> rfl

/-! ### The issue taken back (R42, R93, R139) -/

/-- An entry is gone from the queue, and its response with an outcome is among those of the slot. -/
def GoneWith (e : Entry) (o : EntryOutcome) (s : State) : Prop :=
  .retired e.order (entryResponse (e.answer o) o) ∈ s.port.joining ∧ ∀ x ∈ s.queue, x.tag ≠ e.tag

theorem GoneWith.claimFault {e : Entry} {o : EntryOutcome} {s : State} (h : GoneWith e o s) (w : LaneBits) :
    GoneWith e o (claimFault w s) := by
  obtain ⟨hjoined, hgone⟩ := h
  exact ⟨(claimFault_moves w s).joining_sublist.subset hjoined, fun x hx => hgone x (mem_claimFault hx)⟩

theorem entryResponse_aborted (e : Entry) : entryResponse (e.answer .aborted) .aborted = abortedResponse e := by
  cases hmem : e.mem <;> simp [entryResponse, abortedResponse, Entry.answer, hmem, fenceCode]

section

variable {e : Entry} {s : State}

theorem unissued_phase (e : Entry) : e.unissued.phase = if e.retryUsed then .retryWait else .waiting := rfl

theorem unissued_owing (e : Entry) : e.unissued.phase.owing = true := by
  rw [unissued_phase]
  split <;> rfl

theorem unissued_waiting {m : MemFields} (hmem : e.mem = some m) (h : m.retryUsed = false) : e.unissued.phase = .waiting := by
  have hunused : e.retryUsed = false := by simp [Entry.retryUsed, hmem, h]
  rw [unissued_phase, hunused]
  rfl

theorem abortedResponse_unissued (e : Entry) : abortedResponse e.unissued = abortedResponse e := by
  cases hmem : e.mem <;> simp [abortedResponse, Entry.unissued, hmem]

/-- The answer that a drain gives to an entry. -/
theorem drainEntry_answers (he : e ∈ s.queue) :
    ∃ o, AnswerStands e o (drainEntry e s) ∧ (e.phase = .waiting → o = .aborted) := by
  unfold drainEntry
  split
  · next h =>
    have hanswer : AnswerStands e .dataError (answerEntry e.tag .dataError s) := .answerEntry he
    refine ⟨.dataError, hanswer.congr rfl rfl, fun hphase => ?_⟩
    obtain ⟨hretried, -⟩ := Bool.and_eq_true_iff.1 h
    unfold Entry.retriedIn at hretried
    split at hretried <;> simp [hphase] at hretried
  · exact ⟨.aborted, .answerEntry he, fun _ => rfl⟩

/-- What the events of the slot have missed answers the entry, and it retires, or leaves the station as it is. -/
theorem missedEvents_cases (he : e ∈ s.queue) :
    (∃ o, GoneWith e o (missedEvents e s) ∧ (e.phase = .waiting → o = .aborted)) ∨
      (missedEvents e s = s ∧ s.membership.state ≠ .draining) := by
  unfold missedEvents
  split
  · next h =>
    obtain ⟨-, hretry⟩ := Bool.and_eq_true_iff.1 h
    have hanswer : AnswerStands e .dataError (answerEntry e.tag .dataError s) := .answerEntry he
    have hlost : AnswerStands e .dataError (loseWriteRetry e s) :=
      hanswer.congr (by simp [loseWriteRetry, failWrite]) (by simp [loseWriteRetry, failWrite])
    refine .inl ⟨.dataError, hlost.joined false, fun hphase => ?_⟩
    unfold Entry.isWriteRetry at hretry
    split at hretry <;> simp [hphase] at hretry
  · split
    · obtain ⟨o, hanswer, hwaiting⟩ := drainEntry_answers he
      exact .inl ⟨o, hanswer.joined false, hwaiting⟩
    · exact .inr ⟨rfl, ‹_›⟩

/-- A drain changes one entry, which it answers. -/
theorem drainEntry_answer (x : Entry) (s : State) :
    ∃ o, (drainEntry x s).queue = (answerEntry x.tag o s).queue ∧ (drainEntry x s).port = s.port := by
  unfold drainEntry
  split
  · exact ⟨.dataError, rfl, rfl⟩
  · exact ⟨.aborted, rfl, rfl⟩

/-- The answers to other entries leave an entry as it stood. -/
theorem drainFold_other {es : List Entry} (hother : ∀ x ∈ es, x.tag ≠ e.tag) (he : e ∈ s.queue) :
    e ∈ (es.foldl (fun s e => drainEntry e s) s).queue := by
  induction es generalizing s with
  | nil => exact he
  | cons x rest ih =>
    obtain ⟨hx, hrest⟩ := List.forall_mem_cons.1 hother
    obtain ⟨o, hqueue, -⟩ := drainEntry_answer x s
    refine ih hrest ?_
    rw [hqueue]
    exact List.mem_map.2 ⟨e, he, if_neg fun heq => hx heq.symm⟩

theorem AnswerStands.drainFold {o : EntryOutcome} {es : List Entry} (h : AnswerStands e o s)
    (hother : ∀ x ∈ es, x.tag ≠ e.tag) : AnswerStands e o (es.foldl (fun s e => drainEntry e s) s) := by
  induction es generalizing s with
  | nil => exact h
  | cons x rest ih =>
    obtain ⟨hx, hrest⟩ := List.forall_mem_cons.1 hother
    obtain ⟨o', hqueue, hport⟩ := drainEntry_answer x s
    have hanswer : AnswerStands e o (Machine.answerEntry x.tag o' s) := h.changeEntry hx fun _ => rfl
    exact ih (hanswer.congr hqueue hport) hrest

/-- A drain answers every entry that waits ABORTED. -/
theorem drainEntries_answers (he : e ∈ s.queue) (hphase : e.phase = .waiting) (hnodup : (queueTags s).Nodup) :
    AnswerStands e .aborted (drainEntries s) := by
  have hes : e ∈ s.queue.filter fun e => e.phase.owing := List.mem_filter.2 ⟨he, by rw [hphase]; rfl⟩
  have hsub : ((s.queue.filter fun e => e.phase.owing).map Entry.tag).Nodup := (List.filter_sublist.map Entry.tag).nodup hnodup
  obtain ⟨before, after, hsplit, hother, -⟩ := split_at_tag hsub hes
  obtain ⟨hbefore, hafter⟩ := List.forall_mem_append.1 hother
  obtain ⟨o, hanswer, hwaiting⟩ := drainEntry_answers (drainFold_other hbefore he)
  obtain rfl := hwaiting hphase
  unfold drainEntries
  rw [hsplit, List.foldl_append, List.foldl_cons]
  exact hanswer.drainFold hafter

theorem enterDraining_gone (target : DrainTarget) (he : e ∈ s.queue) (hphase : e.phase = .waiting)
    (hnodup : (queueTags s).Nodup) : GoneWith e .aborted (enterDraining target s) := by
  obtain ⟨hqueue, hport, -, -⟩ := drained_blocks target s
  have hport' : (drained target s).port = (drainEntries s).port := by
    rw [hport]
    simp
  rw [enterDraining_eq]
  exact ((drainEntries_answers he hphase hnodup).congr hqueue hport').joined false

end

/-- A drain that begins leaves no entry in front of its issue. -/
theorem claimFault_owing {w : LaneBits} {s : State} {x : Entry} (h1 : s.membership.state ≠ .draining)
    (h2 : s.membership.state ≠ .withdrawn) (h : x ∈ (claimFault w s).queue) : x ∈ s.queue ∧ x.phase.owing = false := by
  rw [claimFault_drains h1 h2] at h
  obtain ⟨hmem, hphase⟩ := mem_enterDraining h
  refine ⟨hmem, ?_⟩
  rcases hphase with hphase | hphase <;> rw [hphase] <;> rfl

section

variable {c : Candidate} {s : State}

theorem missedEvents_work (e : Entry) (s : State) : (missedEvents e s).work =
    { s.work with idleSettled := (missedEvents e s).work.idleSettled } := by
  unfold missedEvents
  split
  · rw [retireDone_work]
    simp
  · split
    · rw [retireDone_work]
      simp
    · rfl

theorem missedEvents_kept (e : Entry) (s : State) : (missedEvents e s).mirror.kept = s.mirror.kept := by
  unfold missedEvents
  split
  · simp [loseWriteRetry, failWrite, answerEntry]
  · split <;> simp

theorem takeBackIssue_kept (c : Candidate) (s : State) : (takeBackIssue c s).work =
      { s.work with idleSettled := (takeBackIssue c s).work.idleSettled } ∧
    (takeBackIssue c s).mirror.kept = s.mirror.kept := by
  unfold takeBackIssue takeBackColumn
  split
  · split
    · split
      · exact ⟨rfl, rfl⟩
      · split
        · rw [missedEvents_work, missedEvents_kept]
          exact ⟨rfl, rfl⟩
        · exact ⟨rfl, rfl⟩
    · exact ⟨rfl, rfl⟩
  all_goals split <;> exact ⟨rfl, rfl⟩

theorem takeBackIssue_refresh {check : CheckValue} (hsource : ∀ position tag, c.source ≠ .queue position tag)
    (hcommand : c.command = .refresh check) :
    takeBackIssue c s = s.withCounters { s.counters with refreshesIssued := s.counters.refreshesIssued - 1 } := by
  obtain ⟨source, command, cls, score⟩ := c
  obtain rfl : command = .refresh check := hcommand
  cases source
  case queue position tag => exact absurd rfl (hsource position tag)
  all_goals rfl

theorem takeBackIssue_column {position : Nat} {tag : Tag} {e : Entry} {m : MemFields} (hsource : c.source = .queue position tag)
    (hcolumn : isColumn c.command = true) (hfind : findEntry tag s = some e) (hmem : e.mem = some m)
    (hslot : m.issueSlot = some s.slot) (hphase : e.phase = .readIssued ∨ e.phase = .writeIssued) :
    takeBackIssue c s = missedEvents e.unissued (changeEntry tag Entry.unissued s) := by
  have hissued : e.issuedIn s.slot = true := by
    unfold Entry.issuedIn
    rcases hphase with hphase | hphase <;> simp [hphase, Phase.issued, hmem, hslot]
  simp only [takeBackIssue, hsource, hcolumn, takeBackColumn, hfind, hissued, if_true]

theorem findEntry_some {tag : Tag} {e : Entry} (h : findEntry tag s = some e) : e ∈ s.queue ∧ e.tag = tag := by
  unfold findEntry at h
  have htag := List.find?_some h
  exact ⟨List.mem_of_find?_eq_some h, of_decide_eq_true htag⟩

theorem queueTags_changeEntry {tag : Tag} {f : Entry → Entry} (hf : ∀ x, (f x).tag = x.tag) :
    queueTags (changeEntry tag f s) = queueTags s := by
  show (s.queue.map _).map Entry.tag = s.queue.map Entry.tag
  rw [List.map_map]
  refine List.map_congr_left fun x _ => ?_
  show (if x.tag = tag then f x else x).tag = x.tag
  split
  · exact hf x
  · rfl

/-- The entry whose issue is taken back late is gone when the station has drained, answered ABORTED unless it was a retry. -/
theorem takeBackIssue_gone {w : LaneBits} {position : Nat} {tag : Tag} {e : Entry} {m : MemFields}
    (hstate : s.membership.state ≠ .withdrawn) (hsource : c.source = .queue position tag)
    (hcolumn : isColumn c.command = true) (hnodup : (queueTags s).Nodup) (hfind : findEntry tag s = some e)
    (hmem : e.mem = some m) (hslot : m.issueSlot = some s.slot) (hphase : e.phase = .readIssued ∨ e.phase = .writeIssued) :
    tag ∉ queueTags (claimFault w (takeBackIssue c s)) ∧ (m.retryUsed = false →
      .retired e.order (abortedResponse e) ∈ (claimFault w (takeBackIssue c s)).port.joining) := by
  obtain ⟨he, rfl⟩ := findEntry_some hfind
  have hback : e.unissued ∈ (changeEntry e.tag Entry.unissued s).queue := List.mem_map.2 ⟨e, he, if_pos rfl⟩
  have hgone {o : EntryOutcome} {t : State} (h : GoneWith e.unissued o t) (ho : m.retryUsed = false → o = .aborted) :
      e.tag ∉ queueTags t ∧ (m.retryUsed = false → .retired e.order (abortedResponse e) ∈ t.port.joining) := by
    obtain ⟨hjoined, hnone⟩ := h
    refine ⟨fun hin => ?_, fun hunused => ?_⟩
    · obtain ⟨x, hx, htag⟩ := List.mem_map.1 hin
      exact hnone x hx htag
    · rw [ho hunused, entryResponse_aborted, abortedResponse_unissued] at hjoined
      exact hjoined
  rw [takeBackIssue_column hsource hcolumn hfind hmem hslot hphase]
  rcases missedEvents_cases hback with ⟨o, h, ho⟩ | ⟨hsame, hdraining⟩
  · exact hgone (h.claimFault w) fun hunused => ho (unissued_waiting hmem hunused)
  · have hstate' : (changeEntry e.tag Entry.unissued s).membership.state ≠ .withdrawn := hstate
    rw [hsame]
    refine ⟨fun hin => ?_, fun hunused => ?_⟩
    · obtain ⟨x, hx, htag⟩ := List.mem_map.1 hin
      obtain ⟨hx', howing⟩ := claimFault_owing hdraining hstate' hx
      obtain ⟨y, -, rfl⟩ := List.mem_map.1 hx'
      by_cases hy : y.tag = e.tag
      · rw [if_pos hy, unissued_owing] at howing
        cases howing
      · rw [if_neg hy] at htag
        exact hy htag
    · have htags : queueTags (claimFaultNoted w (changeEntry e.tag Entry.unissued s)) = queueTags s :=
        queueTags_changeEntry (s := s) fun _ => rfl
      have hdrained : GoneWith e.unissued .aborted (claimFault w (changeEntry e.tag Entry.unissued s)) := by
        rw [claimFault_drains hdraining hstate']
        exact enterDraining_gone .withdrawn (s := claimFaultNoted w (changeEntry e.tag Entry.unissued s)) hback
          (unissued_waiting hmem hunused) (htags ▸ hnodup)
      obtain ⟨-, hjoined⟩ := hgone hdrained fun _ => rfl
      exact hjoined hunused

end

/-! ### The obligation -/

/-- A late read-back that differs takes the issue back and then takes the fault. -/
theorem lateReadBack_differs {w : LaneBits} {s : State} {k : Claim} (hpresumed : s.work.presumed = true)
    (hobserved : s.work.observed = none) (hclaim : s.work.claim = some k) (hword : s.work.readBack ≠ some w) :
    lateReadBack w s =
      claimFault w (takeBackIssue k.candidate (s.withWork { s.work with presumed := false, readBack := some w })) := by
  simp [lateReadBack, hpresumed, hobserved, hclaim, hword]

/-- Settles O12: the fault at the read-back, in WITHDRAWN, and late in both. -/
theorem differentReadBackWithdraws : Obligations.DifferentReadBackWithdraws := by
  unfold Obligations.DifferentReadBackWithdraws
  refine ⟨fun s k w hended htaken hwon hw hstate => ?_, fun s k w hended htaken hwon hw hstate => ?_,
    fun s k w hended hpresumed hobserved hclaim hword hstate => ?_,
    fun s k w hended hpresumed hobserved hclaim hword hstate => ?_⟩
  · have hexec : exec (.commandReadBack w) s = .next (claimFault w (wordRead w s)) := by
      rw [exec_commandReadBack w hended htaken, readBack_differs hwon hw]
    obtain ⟨houter, hmemory⟩ := outerKept_claimFault w (wordRead w s)
    obtain ⟨hdraining, htarget, hroster⟩ := claimFault_membership (w := w) (s := wordRead w s) hstate
    obtain ⟨hstands, hfirst⟩ := claimFaultNoted_faults w (wordRead w s)
    obtain ⟨hstand, hfirst'⟩ := claimFault_faults w (wordRead w s)
    refine ⟨claimFault w (wordRead w s), hexec, houter, hmemory, by rw [claimFault_work]; rfl, by rw [claimFault_work],
      hdraining, htarget, hroster, claimFault_mirror w (wordRead w s), hstand _ hstands, fun x => mem_claimFault,
      claimFault_counted w (wordRead w s), fun hs => ?_, fun hs x hx => ?_, fun hs hwaiting => ?_,
      fun hs => claimFault_left (s := wordRead w s) hs hstate, ?_⟩
    · rw [claimFault_draining (s := wordRead w s) hs]
      exact ⟨rfl, rfl, rfl, rfl, rfl, rfl, rfl⟩
    · rw [claimFault_drains (s := wordRead w s) hs hstate] at hx
      obtain ⟨-, hphase⟩ := mem_enterDraining hx
      exact hphase
    · rw [claimFault_drains (s := wordRead w s) hs hstate]
      obtain ⟨hqueue, hfaults, hport, hcounters⟩ :=
        enterDraining_waiting .withdrawn (s := claimFaultNoted w (wordRead w s)) hwaiting
      exact ⟨hqueue, hport, hcounters, by rw [hfaults]; rfl⟩
    · rw [hfirst' _ hfirst, issuerDetail_eq]
      rfl
  · rw [exec_commandReadBack w hended htaken, readBack_differs hwon hw, claimFault_withdrawn (s := wordRead w s) hstate]
    rfl
  · generalize hu : s.withWork { s.work with presumed := false, readBack := some w } = u
    have hexec : exec (.commandReadBack w) s = .next (claimFault w (takeBackIssue k.candidate u)) := by
      rw [exec_commandReadBack_ended w hended, lateReadBack_differs hpresumed hobserved hclaim hword, hu]
    obtain ⟨-, -, -, -, hmembership, -⟩ := takeBackIssue_frame k.candidate u
    have humembership : u.membership = s.membership := by simp [← hu]
    have hst : (takeBackIssue k.candidate u).membership.state = .withdrawn := by rw [hmembership, humembership, hstate]
    obtain ⟨hstands, -⟩ := claimFaultNoted_faults w (takeBackIssue k.candidate u)
    rw [← claimFault_withdrawn hst] at hstands
    refine ⟨_, hexec, ?_, by rw [claimFault_work], hstands⟩
    rw [claimFault_withdrawn hst]
    exact hmembership.trans humembership
  · generalize hu : s.withWork { s.work with presumed := false, readBack := some w } = u
    have hexec : exec (.commandReadBack w) s = .next (claimFault w (takeBackIssue k.candidate u)) := by
      rw [exec_commandReadBack_ended w hended, lateReadBack_differs hpresumed hobserved hclaim hword, hu]
    obtain ⟨hpending, hslot, hlines, hloader, hmembership, -, hmemory, -⟩ := takeBackIssue_frame k.candidate u
    obtain ⟨hwork, hkept⟩ := takeBackIssue_kept k.candidate u
    have humembership : u.membership = s.membership := by simp [← hu]
    have hst : (takeBackIssue k.candidate u).membership.state = s.membership.state := by rw [hmembership, humembership]
    have hnot : (takeBackIssue k.candidate u).membership.state ≠ .withdrawn := hst ▸ hstate
    generalize hv : takeBackIssue k.candidate u = v at *
    obtain ⟨⟨hpending', hslot', hlines', hloader'⟩, hmemory'⟩ := outerKept_claimFault w v
    obtain ⟨hdraining, htarget, hroster⟩ := claimFault_membership (w := w) hnot
    obtain ⟨hstands, -⟩ := claimFaultNoted_faults w v
    obtain ⟨hstand, -⟩ := claimFault_faults w v
    refine ⟨_, hexec, ⟨by rw [hpending', hpending, ← hu]; rfl, by rw [hslot', hslot, ← hu]; rfl,
      by rw [hlines', hlines, ← hu]; rfl, by rw [hloader', hloader, ← hu]; rfl⟩, by rw [hmemory', hmemory, ← hu]; rfl,
      by rw [claimFault_work, hwork, ← hu]; rfl, by rw [claimFault_work], by rw [claimFault_work, hwork, ← hu]; rfl, hdraining,
      htarget, by rw [hroster, hmembership, humembership], by rw [claimFault_mirror, hkept, ← hu]; rfl, hstand _ hstands,
      fun hs => claimFault_left (hst ▸ hs) hnot, fun position tag hsource hcolumn hnodup e m hfind hmem hissued hphase => ?_,
      fun hsource hrefresh => ?_⟩
    · rw [← hv]
      subst hu
      exact takeBackIssue_gone (s := s.withWork { s.work with presumed := false, readBack := some w }) hstate hsource hcolumn
        hnodup hfind hmem hissued hphase
    · obtain ⟨check, hcommand⟩ := hrefresh
      have hcounted := claimFault_counted w v
      unfold DrainCounted at hcounted
      rw [hcounted, ← hv, takeBackIssue_refresh hsource hcommand, ← hu]
      rfl

end Sys2Proof.Machine
end
